-- ==== Sys2Proof/Word.lean ====
section
/-! DEFINITION. The word an operation yields: 16 bits, bit 15 the most significant (30 R37, 20 R31). -/

namespace Sys2Proof

/-- "Instruction word: an unsigned 16-bit integer" (00 R9, 30 R37). It has no byte order (20 R31). -/
abbrev Word := BitVec 16

end Sys2Proof
end

