-- ==== Sys2Proof/Config.lean ====
section
/-! DEFINITION. What an implementation of PIOENC fixes: the width W of the numeric inputs (00 R9) and the
uninterpreted parameter NEGSHIFT (decision D17 of 92_eei_decisions.md). The three validation straps are
inputs of the machine and stand in State (10 R16); the constants of the record K stand in
Machine/Consts.lean (10 R19). -/

namespace Sys2Proof

/-- A numeric input: a W-bit unsigned integer, with W the spec's default 32 (00 R9, decision D2).
DESIGN CHOICE, entry 8: the spec allows any `W >= 6`. -/
abbrev WNum := BitVec 32

/-- The two side-set encoders (49 R99). -/
inductive SidesetForm where
  | plain     -- `encode_sideset`
  | optional  -- `encode_sideset_opt`
  deriving DecidableEq, Repr

/-- UNSPECIFIED16 (49 R105, 93 U3, decision D17): the result of a side-set encoder whose shift amount is
negative. A FREE VALUE: no body, so nothing can be proved of what it is. Its arguments are the number of
free values drawn before (a fresh draw per invocation), which encoder, `bit_count` and `value`; a machine
whose result depends on the last three alone is among those it covers. Entry 10. -/
opaque Config.negShift : Nat → SidesetForm → Nat → Nat → Word

end Sys2Proof
end

