-- ==== Sys2Proof/Syntax.lean ====
section
/-! DEFINITION. The closed enumerations (10 R20), the request at the input ports (10 R22), and the
instructions: one constructor of `Instr` per row of spec/opcode_table.json. -/

namespace Sys2Proof

/-- The nine opcode classes, in the order of 10 R22 (30 R39). -/
inductive OpClass where
  | jmp | wait | in_ | out | push | pull | mov | irq | set
  deriving DecidableEq, Repr

/-- The nine operands, in the order of 40 R55. -/
inductive Operand where
  | pins | x | y | null | pindirs | status | pc | isr | osr
  deriving DecidableEq, Repr

/-- The five ways a wrapper uses an operand (40 R57). -/
inductive UseClass where
  | inSrc | outDest | setDest | movSrc | movDest
  deriving DecidableEq, Repr

/-- The eight JMP conditions (42 R69). -/
inductive JmpCond where
  | always | notX | xDec | notY | yDec | xNeY | pin | notOsre
  deriving DecidableEq, Repr

/-- The three WAIT sources (43 R78). -/
inductive WaitSrc where
  | gpio | pin | irq
  deriving DecidableEq, Repr

/-- The three MOV operations (46 R88). -/
inductive MovOp where
  | none | not | reverse
  deriving DecidableEq, Repr

/-- The three IRQ sub-opcodes (47 R93). -/
inductive IrqSub where
  | set | wait | clear
  deriving DecidableEq, Repr

/-- What stands on the input ports (10 R22), as raw codes. The spec gives `op`, `cls`, `opd_a` and `opd_b`
as closed enumerations and no widths; 5, 4, 4 and 4 bits are DESIGN CHOICE, entry 7. -/
structure Request where
  /-- which of the 28 operations, numbered as in 10 R21 -/
  op    : BitVec 5
  /-- the class, used by operations 0 and 1 only -/
  cls   : BitVec 4
  /-- `operand`, `src` of IN, or `dest` -/
  opdA  : BitVec 4
  /-- `src` of the MOV operations -/
  opdB  : BitVec 4
  /-- `selector`, `addr`, `gpio`, `pin`, `irq`, `cycles` or `bit_count` -/
  numA  : WNum
  /-- `argument`, `value` or `count` -/
  numB  : WNum
  /-- `polarity`, `if_full`, `if_empty`, or `relative` of the IRQ operations -/
  flagA : Bool
  /-- `block`, or `relative` of `encode_wait_irq` -/
  flagB : Bool
  deriving DecidableEq, Repr

/-- Why a request on the input ports names no operation: a code outside a closed enumeration
(10 R20, 93 U7). -/
inductive RequestError where
  /-- `op` above 27 -/
  | opOutside (code : BitVec 5)
  /-- a tenth class code -/
  | classOutside (code : BitVec 4)
  /-- a tenth operand code on `opd_a` -/
  | operandAOutside (code : BitVec 4)
  /-- a tenth operand code on `opd_b` -/
  | operandBOutside (code : BitVec 4)
  deriving DecidableEq, Repr

/-- An invocation: an operation with its arguments (10 R21), one constructor per row of
spec/opcode_table.json. Numbers are taken whole (W bits), in range or not: an out-of-range number is a
legal request, which aborts or is packed (60 R109, R112). -/
inductive Instr where
  /-- `encode_args(JMP, selector, argument)` (41 R63) -/
  | encodeArgsJmp (selector argument : WNum)
  /-- `encode_args(WAIT, selector, argument)` (41 R63) -/
  | encodeArgsWait (selector argument : WNum)
  /-- `encode_args(IN, selector, argument)` (41 R63) -/
  | encodeArgsIn (selector argument : WNum)
  /-- `encode_args(OUT, selector, argument)` (41 R63) -/
  | encodeArgsOut (selector argument : WNum)
  /-- `encode_args(PUSH, selector, argument)` (41 R63) -/
  | encodeArgsPush (selector argument : WNum)
  /-- `encode_args(PULL, selector, argument)` (41 R63) -/
  | encodeArgsPull (selector argument : WNum)
  /-- `encode_args(MOV, selector, argument)` (41 R63) -/
  | encodeArgsMov (selector argument : WNum)
  /-- `encode_args(IRQ, selector, argument)` (41 R63) -/
  | encodeArgsIrq (selector argument : WNum)
  /-- `encode_args(SET, selector, argument)` (41 R63) -/
  | encodeArgsSet (selector argument : WNum)
  /-- `encode_args_with_operand(JMP, operand, value)` (41 R66) -/
  | encodeArgsWithOperandJmp (operand : Operand) (value : WNum)
  /-- `encode_args_with_operand(WAIT, operand, value)` (41 R66) -/
  | encodeArgsWithOperandWait (operand : Operand) (value : WNum)
  /-- `encode_args_with_operand(IN, operand, value)` (41 R66) -/
  | encodeArgsWithOperandIn (operand : Operand) (value : WNum)
  /-- `encode_args_with_operand(OUT, operand, value)` (41 R66) -/
  | encodeArgsWithOperandOut (operand : Operand) (value : WNum)
  /-- `encode_args_with_operand(PUSH, operand, value)` (41 R66) -/
  | encodeArgsWithOperandPush (operand : Operand) (value : WNum)
  /-- `encode_args_with_operand(PULL, operand, value)` (41 R66) -/
  | encodeArgsWithOperandPull (operand : Operand) (value : WNum)
  /-- `encode_args_with_operand(MOV, operand, value)` (41 R66) -/
  | encodeArgsWithOperandMov (operand : Operand) (value : WNum)
  /-- `encode_args_with_operand(IRQ, operand, value)` (41 R66) -/
  | encodeArgsWithOperandIrq (operand : Operand) (value : WNum)
  /-- `encode_args_with_operand(SET, operand, value)` (41 R66) -/
  | encodeArgsWithOperandSet (operand : Operand) (value : WNum)
  /-- `encode_jmp(addr)` (42 R70) -/
  | encodeJmp (addr : WNum)
  /-- `encode_jmp_not_x(addr)` (42 R71) -/
  | encodeJmpNotX (addr : WNum)
  /-- `encode_jmp_x_dec(addr)` (42 R72) -/
  | encodeJmpXDec (addr : WNum)
  /-- `encode_jmp_not_y(addr)` (42 R73) -/
  | encodeJmpNotY (addr : WNum)
  /-- `encode_jmp_y_dec(addr)` (42 R74) -/
  | encodeJmpYDec (addr : WNum)
  /-- `encode_jmp_x_ne_y(addr)` (42 R75) -/
  | encodeJmpXNeY (addr : WNum)
  /-- `encode_jmp_pin(addr)` (42 R76) -/
  | encodeJmpPin (addr : WNum)
  /-- `encode_jmp_not_osre(addr)` (42 R77) -/
  | encodeJmpNotOsre (addr : WNum)
  /-- `encode_wait_gpio(polarity, gpio)` (43 R79) -/
  | encodeWaitGpio (polarity : Bool) (gpio : WNum)
  /-- `encode_wait_pin(polarity, pin)` (43 R80) -/
  | encodeWaitPin (polarity : Bool) (pin : WNum)
  /-- `encode_wait_irq(polarity, relative, irq)` (43 R81) -/
  | encodeWaitIrq (polarity relative : Bool) (irq : WNum)
  /-- `encode_in(src, count)` (44 R83) -/
  | encodeIn (src : Operand) (count : WNum)
  /-- `encode_out(dest, count)` (44 R84) -/
  | encodeOut (dest : Operand) (count : WNum)
  /-- `encode_push(if_full, block)` (45 R86) -/
  | encodePush (ifFull block : Bool)
  /-- `encode_pull(if_empty, block)` (45 R87) -/
  | encodePull (ifEmpty block : Bool)
  /-- `encode_mov(dest, src)` (46 R89) -/
  | encodeMov (dest src : Operand)
  /-- `encode_mov_not(dest, src)` (46 R90) -/
  | encodeMovNot (dest src : Operand)
  /-- `encode_mov_reverse(dest, src)` (46 R91) -/
  | encodeMovReverse (dest src : Operand)
  /-- `encode_nop()` (46 R92) -/
  | encodeNop
  /-- `encode_irq_set(relative, irq)` (47 R94) -/
  | encodeIrqSet (relative : Bool) (irq : WNum)
  /-- `encode_irq_wait(relative, irq)` (47 R95) -/
  | encodeIrqWait (relative : Bool) (irq : WNum)
  /-- `encode_irq_clear(relative, irq)` (47 R96) -/
  | encodeIrqClear (relative : Bool) (irq : WNum)
  /-- `encode_set(dest, value)` (48 R98) -/
  | encodeSet (dest : Operand) (value : WNum)
  /-- `encode_delay(cycles)` (49 R100) -/
  | encodeDelay (cycles : WNum)
  /-- `encode_sideset(1, value)` (49 R101) -/
  | encodeSideset1 (value : WNum)
  /-- `encode_sideset(2, value)` (49 R101) -/
  | encodeSideset2 (value : WNum)
  /-- `encode_sideset(3, value)` (49 R101) -/
  | encodeSideset3 (value : WNum)
  /-- `encode_sideset(4, value)` (49 R101) -/
  | encodeSideset4 (value : WNum)
  /-- `encode_sideset(bit_count, value)` (49 R101) for `bit_count == 5`, the table's row, and for the bit
  counts the table has no row for: 0 and 6 up (entry 6; `Instr.wellFormed`). -/
  | encodeSideset5 (bitCount value : WNum)
  /-- `encode_sideset_opt(1, value)` (49 R102) -/
  | encodeSidesetOpt1 (value : WNum)
  /-- `encode_sideset_opt(2, value)` (49 R102) -/
  | encodeSidesetOpt2 (value : WNum)
  /-- `encode_sideset_opt(3, value)` (49 R102) -/
  | encodeSidesetOpt3 (value : WNum)
  /-- `encode_sideset_opt(bit_count, value)` (49 R102) for `bit_count == 4`, the table's row, and for the
  bit counts the table has no row for: 0 and 5 up (entry 6; `Instr.wellFormed`). -/
  | encodeSidesetOpt4 (bitCount value : WNum)
  deriving DecidableEq, Repr

end Sys2Proof
end

