-- ==== Sys2Proof/Machine/Consts.lean ====
section
/-! DEFINITION. The constant record K (10 R19): every literal constant of the encoding in one place, as
functions on the closed enumerations (10 R20). Values that the spec marks as general knowledge are marked
UNVERIFIED here (entry 9). -/

namespace Sys2Proof

/-- `TAG(c)` (30 R39). JMP, WAIT and IRQ are the source's; the other six are UNVERIFIED (GK2). -/
def K.tag : OpClass → Word
  | .jmp  => 0x0000#16
  | .wait => 0x2000#16
  | .in_  => 0x4000#16
  | .out  => 0x6000#16
  | .push => 0x8000#16
  | .pull => 0x8080#16
  | .mov  => 0xA000#16
  | .irq  => 0xC000#16
  | .set  => 0xE000#16

/-- `SEL(o)` (40 R56), which is also the masking operation (40 R60). UNVERIFIED (GK3). -/
def K.sel : Operand → BitVec 3
  | .pins    => 0
  | .x       => 1
  | .y       => 2
  | .null    => 3
  | .pindirs => 4
  | .status  => 5
  | .pc      => 5
  | .isr     => 6
  | .osr     => 7

/-- `FORBID(o, u)`, the legality table row by row (40 R58). The cells (pindirs, IN_SRC), (null, MOV_DEST),
(pins, IN_SRC), (y, MOV_SRC) and (y, MOV_DEST) are the source's; the other 40 are UNVERIFIED (GK4). -/
def K.forbid : Operand → UseClass → Bool
  | .pins, _ => false
  | .x, _ => false
  | .y, _ => false
  | .null, .setDest => true
  | .null, .movDest => true
  | .null, _ => false
  | .pindirs, .inSrc => true
  | .pindirs, .movSrc => true
  | .pindirs, .movDest => true
  | .pindirs, _ => false
  | .status, .movSrc => false
  | .status, _ => true
  | .pc, .outDest => false
  | .pc, .movDest => false
  | .pc, _ => true
  | .isr, .setDest => true
  | .isr, _ => false
  | .osr, .outDest => true
  | .osr, .setDest => true
  | .osr, _ => false

/-- JMP_COND 0 to 7 (42 R69 to R77). Which name goes with which of 1 to 7 is UNVERIFIED (GK6). -/
def K.jmpCond : JmpCond → Nat
  | .always  => 0
  | .notX    => 1
  | .xDec    => 2
  | .notY    => 3
  | .yDec    => 4
  | .xNeY    => 5
  | .pin     => 6
  | .notOsre => 7

/-- WAIT_SRC_GPIO, WAIT_SRC_PIN, WAIT_SRC_IRQ (43 R78). PIN and IRQ are UNVERIFIED (GK7). -/
def K.waitSrc : WaitSrc → Nat
  | .gpio => 0
  | .pin  => 1
  | .irq  => 2

/-- WAIT_POLARITY = 4, in the selector (43 R78). -/
def K.waitPolarity : Nat := 4

/-- PP_BLOCK = 1, in the selector (45 R85). UNVERIFIED (GK8). -/
def K.ppBlock : Nat := 1

/-- PP_IF = 2, in the selector (45 R85). UNVERIFIED (GK8). -/
def K.ppIf : Nat := 2

/-- MOV_OP_NONE, MOV_OP_NOT, MOV_OP_REVERSE, shifted left 3 when packed (46 R88). -/
def K.movOp : MovOp → Nat
  | .none    => 0
  | .not     => 1
  | .reverse => 2

/-- IRQ_SUB_SET, IRQ_SUB_WAIT, IRQ_SUB_CLEAR (47 R93). WAIT and CLEAR are UNVERIFIED (GK7). -/
def K.irqSub : IrqSub → Nat
  | .set   => 0
  | .wait  => 1
  | .clear => 2

/-- IRQ_REL = 0x10, in the argument (41 R67). -/
def K.irqRel : Nat := 0x10

/-- SIDESET_OPT_EN = 0x1000 (49 R102). -/
def K.sidesetOptEn : Nat := 0x1000

/-- The highest `bit_count` whose shift amount is not negative: 13 and 12 (49 R105). -/
def K.sidesetTop : SidesetForm → Nat
  | .plain    => 13
  | .optional => 12

/-- The flag the repository's operand integer carries for a forbidden use (40 R62). UNVERIFIED (GK5). -/
def K.forbidFlag : UseClass → Nat
  | .inSrc   => 0x08
  | .outDest => 0x10
  | .setDest => 0x20
  | .movSrc  => 0x40
  | .movDest => 0x80

end Sys2Proof
end

