-- ==== Sys2Proof/Machine/Flags.lean ====
section
/-! DEFINITION. PIOENC keeps no condition flags and no operation writes any (10 R15). What it has are boolean
inputs that become flag bits of the emitted word: those computations stand here. -/

namespace Sys2Proof.Machine

/-- A flag bit of the word: its constant of K when the input is true, else 0 (`b2n(f) << n`, 00 section 4). -/
def flagBit (f : Bool) (bit : Nat) : Nat := if f then bit else 0

/-- The selector of a WAIT word: `source | (polarity ? 4 : 0)` (43 R78). -/
def waitSelector (src : WaitSrc) (polarity : Bool) : Nat :=
  K.waitSrc src ||| flagBit polarity K.waitPolarity

/-- The selector a PUSH or PULL wrapper passes: `(if ? 2 : 0) | (block ? 1 : 0)` (45 R85). -/
def ppSelector (ifFlag block : Bool) : Nat :=
  flagBit ifFlag K.ppIf ||| flagBit block K.ppBlock

/-- The composite IRQ number: `0x10 | irq`, or `irq`; `irq` is not masked (41 R67, decision D12). -/
def irqComposite (relative : Bool) (irq : Nat) : Nat :=
  flagBit relative K.irqRel ||| irq

end Sys2Proof.Machine
end

