-- ==== Sys2Proof/Machine/Operands.lean ====
section
/-! DEFINITION. The operand forms: the selector of an operand and the MOV argument that carries one (40, 46),
and the repository's flagged-integer form of an operand (40 R62). -/

namespace Sys2Proof.Machine

/-- `SEL(o)` as a number, 0 to 7: all an encoder packs of an operand (40 R60). -/
def selNat (o : Operand) : Nat := (K.sel o).toNat

/-- The argument of a MOV word: operation tag in bits[4:3], source selector in bits[2:0] (46 R88). -/
def movArgument (op : MovOp) (src : Operand) : Nat := (K.movOp op <<< 3) ||| selNat src

/-- The repository's integer for an operand: selector plus, in validated builds only, one flag per
forbidden use-class (40 R62, informative). -/
def flaggedInteger (validate : Bool) (o : Operand) : Nat :=
  let flag (u : UseClass) : Nat := if validate && K.forbid o u then K.forbidFlag u else 0
  selNat o ||| flag .inSrc ||| flag .outDest ||| flag .setDest ||| flag .movSrc ||| flag .movDest

end Sys2Proof.Machine
end

