-- ==== Sys2Proof/WellFormed.lean ====
section
/-! DEFINITION. Which terms of `Instr` stand for a request. The closed enumerations and W-bit numbers leave
nothing ill-formed (10 R20) but one thing: a side-set request has ONE term, that of its own row. -/

namespace Sys2Proof

/-- `encodeSideset5` and `encodeSidesetOpt4` do not carry a bit count that has a row, and so a constructor,
of its own (entry 6). Out-of-range numbers and forbidden operands are well-formed requests (60 R112). -/
def Instr.wellFormed : Instr → Bool
  | .encodeSideset5 bitCount _ => decide (bitCount = 0 ∨ 5 ≤ bitCount.toNat)
  | .encodeSidesetOpt4 bitCount _ => decide (bitCount = 0 ∨ 4 ≤ bitCount.toNat)
  | .encodeArgsJmp _ _ | .encodeArgsWait _ _ | .encodeArgsIn _ _ | .encodeArgsOut _ _ | .encodeArgsPush _ _
  | .encodeArgsPull _ _ | .encodeArgsMov _ _ | .encodeArgsIrq _ _ | .encodeArgsSet _ _
  | .encodeArgsWithOperandJmp _ _ | .encodeArgsWithOperandWait _ _ | .encodeArgsWithOperandIn _ _
  | .encodeArgsWithOperandOut _ _ | .encodeArgsWithOperandPush _ _ | .encodeArgsWithOperandPull _ _
  | .encodeArgsWithOperandMov _ _ | .encodeArgsWithOperandIrq _ _ | .encodeArgsWithOperandSet _ _
  | .encodeJmp _ | .encodeJmpNotX _ | .encodeJmpXDec _ | .encodeJmpNotY _ | .encodeJmpYDec _
  | .encodeJmpXNeY _ | .encodeJmpPin _ | .encodeJmpNotOsre _ | .encodeWaitGpio _ _ | .encodeWaitPin _ _
  | .encodeWaitIrq _ _ _ | .encodeIn _ _ | .encodeOut _ _ | .encodePush _ _ | .encodePull _ _
  | .encodeMov _ _ | .encodeMovNot _ _ | .encodeMovReverse _ _ | .encodeNop | .encodeIrqSet _ _
  | .encodeIrqWait _ _ | .encodeIrqClear _ _ | .encodeSet _ _ | .encodeDelay _ | .encodeSideset1 _
  | .encodeSideset2 _ | .encodeSideset3 _ | .encodeSideset4 _ | .encodeSidesetOpt1 _ | .encodeSidesetOpt2 _
  | .encodeSidesetOpt3 _ => true

end Sys2Proof
end

