-- ==== Sys2Proof/Decode.lean ====
section
/-! DEFINITION. Two readings. (1) The request on the input ports: `decode` reads it as an instruction,
rejecting by name a code outside the enumerations, and `encode` puts an instruction on the ports
(10 R21, R22). This is what `step` runs. (2) The words of the opcode map: `opcodeWord` writes the bit
pattern of 30 R46 for an instruction, and `readWord` reads a word as ONE instruction that yields it.
PIOENC itself never decodes a word (30 R48, R54): `readWord` and `decodeTableWord` are the model's own,
asked for by the host's interface (DESIGN CHOICE, entry 5). -/

namespace Sys2Proof

/-! ## Requests on the input ports -/

/-- The class code on `cls`: the place in the list of 10 R22. DESIGN CHOICE, entry 7. -/
def classCode : OpClass → BitVec 4
  | .jmp => 0 | .wait => 1 | .in_ => 2 | .out => 3 | .push => 4 | .pull => 5 | .mov => 6 | .irq => 7 | .set => 8

/-- The class a code names; the enumeration is closed (10 R20, 93 U7). -/
def classOf (code : BitVec 4) : Except RequestError OpClass :=
  match code.toNat with
  | 0 => .ok .jmp | 1 => .ok .wait | 2 => .ok .in_ | 3 => .ok .out | 4 => .ok .push
  | 5 => .ok .pull | 6 => .ok .mov | 7 => .ok .irq | 8 => .ok .set
  | _ => .error (.classOutside code)

/-- The operand code on `opd_a` and `opd_b`: the place in the list of 40 R55. DESIGN CHOICE, entry 7. -/
def operandCode : Operand → BitVec 4
  | .pins => 0 | .x => 1 | .y => 2 | .null => 3 | .pindirs => 4 | .status => 5 | .pc => 6 | .isr => 7 | .osr => 8

/-- The operand a code names, if any; the enumeration is closed (40 R55, 93 U7). -/
def operandOf (code : BitVec 4) : Option Operand :=
  match code.toNat with
  | 0 => some .pins | 1 => some .x | 2 => some .y | 3 => some .null | 4 => some .pindirs
  | 5 => some .status | 6 => some .pc | 7 => some .isr | 8 => some .osr
  | _ => none

/-- The operand on `opd_a`. -/
def operandA (r : Request) : Except RequestError Operand :=
  match operandOf r.opdA with
  | some o => .ok o
  | none => .error (.operandAOutside r.opdA)

/-- The operand on `opd_b`. -/
def operandB (r : Request) : Except RequestError Operand :=
  match operandOf r.opdB with
  | some o => .ok o
  | none => .error (.operandBOutside r.opdB)

/-- `encode_args` by its class (41 R63): operation 0 of 10 R21. -/
def encodeArgsInstr (cls : OpClass) (selector argument : WNum) : Instr :=
  match cls with
  | .jmp  => .encodeArgsJmp selector argument
  | .wait => .encodeArgsWait selector argument
  | .in_  => .encodeArgsIn selector argument
  | .out  => .encodeArgsOut selector argument
  | .push => .encodeArgsPush selector argument
  | .pull => .encodeArgsPull selector argument
  | .mov  => .encodeArgsMov selector argument
  | .irq  => .encodeArgsIrq selector argument
  | .set  => .encodeArgsSet selector argument

/-- `encode_args_with_operand` by its class (41 R66): operation 1 of 10 R21. -/
def encodeArgsWithOperandInstr (cls : OpClass) (operand : Operand) (value : WNum) : Instr :=
  match cls with
  | .jmp  => .encodeArgsWithOperandJmp operand value
  | .wait => .encodeArgsWithOperandWait operand value
  | .in_  => .encodeArgsWithOperandIn operand value
  | .out  => .encodeArgsWithOperandOut operand value
  | .push => .encodeArgsWithOperandPush operand value
  | .pull => .encodeArgsWithOperandPull operand value
  | .mov  => .encodeArgsWithOperandMov operand value
  | .irq  => .encodeArgsWithOperandIrq operand value
  | .set  => .encodeArgsWithOperandSet operand value

/-- The JMP encoder of a condition (42 R69): operations 2 to 9. -/
def jmpInstr (cond : JmpCond) (addr : WNum) : Instr :=
  match cond with
  | .always  => .encodeJmp addr
  | .notX    => .encodeJmpNotX addr
  | .xDec    => .encodeJmpXDec addr
  | .notY    => .encodeJmpNotY addr
  | .yDec    => .encodeJmpYDec addr
  | .xNeY    => .encodeJmpXNeY addr
  | .pin     => .encodeJmpPin addr
  | .notOsre => .encodeJmpNotOsre addr

/-- The MOV encoder of an operation tag (46 R88): operations 17 to 19. -/
def movInstr (op : MovOp) (dest src : Operand) : Instr :=
  match op with
  | .none    => .encodeMov dest src
  | .not     => .encodeMovNot dest src
  | .reverse => .encodeMovReverse dest src

/-- The IRQ encoder of a sub-opcode (47 R93): operations 21 to 23. -/
def irqInstr (sub : IrqSub) (relative : Bool) (irq : WNum) : Instr :=
  match sub with
  | .set   => .encodeIrqSet relative irq
  | .wait  => .encodeIrqWait relative irq
  | .clear => .encodeIrqClear relative irq

/-- `encode_sideset` by its bit count (49 R101): operation 26. -/
def sidesetInstr (bitCount value : WNum) : Instr :=
  if bitCount = 1 then .encodeSideset1 value
  else if bitCount = 2 then .encodeSideset2 value
  else if bitCount = 3 then .encodeSideset3 value
  else if bitCount = 4 then .encodeSideset4 value
  else .encodeSideset5 bitCount value

/-- `encode_sideset_opt` by its bit count (49 R102): operation 27. -/
def sidesetOptInstr (bitCount value : WNum) : Instr :=
  if bitCount = 1 then .encodeSidesetOpt1 value
  else if bitCount = 2 then .encodeSidesetOpt2 value
  else if bitCount = 3 then .encodeSidesetOpt3 value
  else .encodeSidesetOpt4 bitCount value

/-- The instruction a request names, total on every content of the ports: the operation by its number
(10 R21), its arguments from the ports of 10 R22; ports the operation does not name are ignored. A code
outside an enumeration is rejected by name (93 U7). -/
def decode (r : Request) : Except RequestError Instr :=
  match r.op.toNat with
  | 0  => do return encodeArgsInstr (← classOf r.cls) r.numA r.numB
  | 1  => do
      let cls ← classOf r.cls
      return encodeArgsWithOperandInstr cls (← operandA r) r.numB
  | 2  => .ok (.encodeJmp r.numA)
  | 3  => .ok (.encodeJmpNotX r.numA)
  | 4  => .ok (.encodeJmpXDec r.numA)
  | 5  => .ok (.encodeJmpNotY r.numA)
  | 6  => .ok (.encodeJmpYDec r.numA)
  | 7  => .ok (.encodeJmpXNeY r.numA)
  | 8  => .ok (.encodeJmpPin r.numA)
  | 9  => .ok (.encodeJmpNotOsre r.numA)
  | 10 => .ok (.encodeWaitGpio r.flagA r.numA)
  | 11 => .ok (.encodeWaitPin r.flagA r.numA)
  | 12 => .ok (.encodeWaitIrq r.flagA r.flagB r.numA)
  | 13 => do return .encodeIn (← operandA r) r.numB
  | 14 => do return .encodeOut (← operandA r) r.numB
  | 15 => .ok (.encodePush r.flagA r.flagB)
  | 16 => .ok (.encodePull r.flagA r.flagB)
  | 17 => do return .encodeMov (← operandA r) (← operandB r)
  | 18 => do return .encodeMovNot (← operandA r) (← operandB r)
  | 19 => do return .encodeMovReverse (← operandA r) (← operandB r)
  | 20 => .ok .encodeNop
  | 21 => .ok (.encodeIrqSet r.flagA r.numA)
  | 22 => .ok (.encodeIrqWait r.flagA r.numA)
  | 23 => .ok (.encodeIrqClear r.flagA r.numA)
  | 24 => do return .encodeSet (← operandA r) r.numB
  | 25 => .ok (.encodeDelay r.numA)
  | 26 => .ok (sidesetInstr r.numA r.numB)
  | 27 => .ok (sidesetOptInstr r.numA r.numB)
  | _  => .error (.opOutside r.op)

/-- A request for operation `op` with every argument port at zero. -/
def blankRequest (op : BitVec 5) : Request :=
  { op, cls := 0, opdA := 0, opdB := 0, numA := 0, numB := 0, flagA := false, flagB := false }

/-- The request for `encode_args` of a class. -/
def argsRequest (cls : OpClass) (selector argument : WNum) : Request :=
  { blankRequest 0 with cls := classCode cls, numA := selector, numB := argument }

/-- The request for `encode_args_with_operand` of a class. -/
def operandRequest (cls : OpClass) (operand : Operand) (value : WNum) : Request :=
  { blankRequest 1 with cls := classCode cls, opdA := operandCode operand, numB := value }

/-- The request that names an instruction: operation numbers of 10 R21, ports of 10 R22, and zero on the
ports the operation does not name. -/
def encode : Instr → Request
  | .encodeArgsJmp k g => argsRequest .jmp k g
  | .encodeArgsWait k g => argsRequest .wait k g
  | .encodeArgsIn k g => argsRequest .in_ k g
  | .encodeArgsOut k g => argsRequest .out k g
  | .encodeArgsPush k g => argsRequest .push k g
  | .encodeArgsPull k g => argsRequest .pull k g
  | .encodeArgsMov k g => argsRequest .mov k g
  | .encodeArgsIrq k g => argsRequest .irq k g
  | .encodeArgsSet k g => argsRequest .set k g
  | .encodeArgsWithOperandJmp o g => operandRequest .jmp o g
  | .encodeArgsWithOperandWait o g => operandRequest .wait o g
  | .encodeArgsWithOperandIn o g => operandRequest .in_ o g
  | .encodeArgsWithOperandOut o g => operandRequest .out o g
  | .encodeArgsWithOperandPush o g => operandRequest .push o g
  | .encodeArgsWithOperandPull o g => operandRequest .pull o g
  | .encodeArgsWithOperandMov o g => operandRequest .mov o g
  | .encodeArgsWithOperandIrq o g => operandRequest .irq o g
  | .encodeArgsWithOperandSet o g => operandRequest .set o g
  | .encodeJmp addr => { blankRequest 2 with numA := addr }
  | .encodeJmpNotX addr => { blankRequest 3 with numA := addr }
  | .encodeJmpXDec addr => { blankRequest 4 with numA := addr }
  | .encodeJmpNotY addr => { blankRequest 5 with numA := addr }
  | .encodeJmpYDec addr => { blankRequest 6 with numA := addr }
  | .encodeJmpXNeY addr => { blankRequest 7 with numA := addr }
  | .encodeJmpPin addr => { blankRequest 8 with numA := addr }
  | .encodeJmpNotOsre addr => { blankRequest 9 with numA := addr }
  | .encodeWaitGpio polarity gpio => { blankRequest 10 with flagA := polarity, numA := gpio }
  | .encodeWaitPin polarity pin => { blankRequest 11 with flagA := polarity, numA := pin }
  | .encodeWaitIrq polarity relative irq =>
      { blankRequest 12 with flagA := polarity, flagB := relative, numA := irq }
  | .encodeIn src count => { blankRequest 13 with opdA := operandCode src, numB := count }
  | .encodeOut dest count => { blankRequest 14 with opdA := operandCode dest, numB := count }
  | .encodePush ifFull block => { blankRequest 15 with flagA := ifFull, flagB := block }
  | .encodePull ifEmpty block => { blankRequest 16 with flagA := ifEmpty, flagB := block }
  | .encodeMov dest src => { blankRequest 17 with opdA := operandCode dest, opdB := operandCode src }
  | .encodeMovNot dest src => { blankRequest 18 with opdA := operandCode dest, opdB := operandCode src }
  | .encodeMovReverse dest src => { blankRequest 19 with opdA := operandCode dest, opdB := operandCode src }
  | .encodeNop => blankRequest 20
  | .encodeIrqSet relative irq => { blankRequest 21 with flagA := relative, numA := irq }
  | .encodeIrqWait relative irq => { blankRequest 22 with flagA := relative, numA := irq }
  | .encodeIrqClear relative irq => { blankRequest 23 with flagA := relative, numA := irq }
  | .encodeSet dest value => { blankRequest 24 with opdA := operandCode dest, numB := value }
  | .encodeDelay cycles => { blankRequest 25 with numA := cycles }
  | .encodeSideset1 value => { blankRequest 26 with numA := 1, numB := value }
  | .encodeSideset2 value => { blankRequest 26 with numA := 2, numB := value }
  | .encodeSideset3 value => { blankRequest 26 with numA := 3, numB := value }
  | .encodeSideset4 value => { blankRequest 26 with numA := 4, numB := value }
  | .encodeSideset5 bitCount value => { blankRequest 26 with numA := bitCount, numB := value }
  | .encodeSidesetOpt1 value => { blankRequest 27 with numA := 1, numB := value }
  | .encodeSidesetOpt2 value => { blankRequest 27 with numA := 2, numB := value }
  | .encodeSidesetOpt3 value => { blankRequest 27 with numA := 3, numB := value }
  | .encodeSidesetOpt4 bitCount value => { blankRequest 27 with numA := bitCount, numB := value }

/-! ## Words of the opcode map (30 R46) -/

/-- A base word by its fields: class bits, zero delay/side-set bits, selector, argument (30 R37, R45). -/
def baseWord (major selector : BitVec 3) (argument : BitVec 5) : Word :=
  major ++ 0b00000#5 ++ selector ++ argument

/-- Field bits: zero but for bits[12:8] (49 R99). -/
def fieldWord (field : BitVec 5) : Word :=
  0b000#3 ++ field ++ 0b00000000#8

/-- The low `n` bits of a numeric input. -/
def low (n : Nat) (v : WNum) : BitVec n := v.setWidth n

/-- The composite IRQ number `r0nnn` (30 R43). -/
def irqBits (relative : Bool) (irq : WNum) : BitVec 5 :=
  BitVec.ofBool relative ++ 0b0#1 ++ low 3 irq

/-- The opcode map of 30 R46, row by row: the bit pattern of the word an instruction yields FOR IN-RANGE
INPUTS (it says nothing of others). Written from the patterns, not from the packing formulas. -/
def opcodeWord : Instr → Word
  | .encodeArgsJmp k g => baseWord 0b000 (low 3 k) (low 5 g)
  | .encodeArgsWait k g => baseWord 0b001 (low 3 k) (low 5 g)
  | .encodeArgsIn k g => baseWord 0b010 (low 3 k) (low 5 g)
  | .encodeArgsOut k g => baseWord 0b011 (low 3 k) (low 5 g)
  | .encodeArgsPush k g => baseWord 0b100 (low 3 k) (low 5 g)
  | .encodeArgsPull k g => baseWord 0b100 (0b1#1 ++ low 2 k) (low 5 g)
  | .encodeArgsMov k g => baseWord 0b101 (low 3 k) (low 5 g)
  | .encodeArgsIrq k g => baseWord 0b110 (low 3 k) (low 5 g)
  | .encodeArgsSet k g => baseWord 0b111 (low 3 k) (low 5 g)
  | .encodeArgsWithOperandJmp o g => baseWord 0b000 (K.sel o) (low 5 g)
  | .encodeArgsWithOperandWait o g => baseWord 0b001 (K.sel o) (low 5 g)
  | .encodeArgsWithOperandIn o g => baseWord 0b010 (K.sel o) (low 5 g)
  | .encodeArgsWithOperandOut o g => baseWord 0b011 (K.sel o) (low 5 g)
  | .encodeArgsWithOperandPush o g => baseWord 0b100 (K.sel o) (low 5 g)
  | .encodeArgsWithOperandPull o g => baseWord 0b100 (0b1#1 ++ (K.sel o).setWidth 2) (low 5 g)
  | .encodeArgsWithOperandMov o g => baseWord 0b101 (K.sel o) (low 5 g)
  | .encodeArgsWithOperandIrq o g => baseWord 0b110 (K.sel o) (low 5 g)
  | .encodeArgsWithOperandSet o g => baseWord 0b111 (K.sel o) (low 5 g)
  | .encodeJmp a => baseWord 0b000 0b000 (low 5 a)
  | .encodeJmpNotX a => baseWord 0b000 0b001 (low 5 a)
  | .encodeJmpXDec a => baseWord 0b000 0b010 (low 5 a)
  | .encodeJmpNotY a => baseWord 0b000 0b011 (low 5 a)
  | .encodeJmpYDec a => baseWord 0b000 0b100 (low 5 a)
  | .encodeJmpXNeY a => baseWord 0b000 0b101 (low 5 a)
  | .encodeJmpPin a => baseWord 0b000 0b110 (low 5 a)
  | .encodeJmpNotOsre a => baseWord 0b000 0b111 (low 5 a)
  | .encodeWaitGpio p i => baseWord 0b001 (BitVec.ofBool p ++ 0b00#2) (low 5 i)
  | .encodeWaitPin p i => baseWord 0b001 (BitVec.ofBool p ++ 0b01#2) (low 5 i)
  | .encodeWaitIrq p r n => baseWord 0b001 (BitVec.ofBool p ++ 0b10#2) (irqBits r n)
  | .encodeIn s c => baseWord 0b010 (K.sel s) (low 5 c)
  | .encodeOut d c => baseWord 0b011 (K.sel d) (low 5 c)
  | .encodePush f b => baseWord 0b100 (0b0#1 ++ BitVec.ofBool f ++ BitVec.ofBool b) 0
  | .encodePull f b => baseWord 0b100 (0b1#1 ++ BitVec.ofBool f ++ BitVec.ofBool b) 0
  | .encodeMov d s => baseWord 0b101 (K.sel d) (0b00#2 ++ K.sel s)
  | .encodeMovNot d s => baseWord 0b101 (K.sel d) (0b01#2 ++ K.sel s)
  | .encodeMovReverse d s => baseWord 0b101 (K.sel d) (0b10#2 ++ K.sel s)
  | .encodeNop => baseWord 0b101 0b010 0b00010
  | .encodeIrqSet r n => baseWord 0b110 0b000 (irqBits r n)
  | .encodeIrqWait r n => baseWord 0b110 0b001 (irqBits r n)
  | .encodeIrqClear r n => baseWord 0b110 0b010 (irqBits r n)
  | .encodeSet d v => baseWord 0b111 (K.sel d) (low 5 v)
  | .encodeDelay y => fieldWord (low 5 y)
  | .encodeSideset1 e => fieldWord (low 1 e ++ 0b0000#4)
  | .encodeSideset2 e => fieldWord (low 2 e ++ 0b000#3)
  | .encodeSideset3 e => fieldWord (low 3 e ++ 0b00#2)
  | .encodeSideset4 e => fieldWord (low 4 e ++ 0b0#1)
  | .encodeSideset5 _ e => fieldWord (low 5 e)
  | .encodeSidesetOpt1 e => fieldWord (0b1#1 ++ low 1 e ++ 0b000#3)
  | .encodeSidesetOpt2 e => fieldWord (0b1#1 ++ low 2 e ++ 0b00#2)
  | .encodeSidesetOpt3 e => fieldWord (0b1#1 ++ low 3 e ++ 0b0#1)
  | .encodeSidesetOpt4 _ e => fieldWord (0b1#1 ++ low 4 e)

/-- Why a word is the result of no single operation on in-range inputs. -/
inductive WordError where
  /-- bits[12:8] and other bits are both non-zero: a caller's combination of a base word and field bits
  (49 R106), or no result at all -/
  | fieldBitsOnBase (w : Word)
  deriving DecidableEq, Repr

/-- A field of a word as a numeric input. -/
def widen {n : Nat} (b : BitVec n) : WNum := b.setWidth 32

/-- The operand that is allowed in use-class `u` and has selector `k`: at most one (40 R58, R61). -/
def operandFor (u : UseClass) (k : BitVec 3) : Option Operand :=
  [Operand.pins, .x, .y, .null, .pindirs, .status, .pc, .isr, .osr].find?
    fun o => K.sel o == k && !K.forbid o u

/-- The bit count a count field stands for: 0 is 32 (44 R82). -/
def countOf (c : BitVec 5) : WNum := if c = 0 then 32 else widen c

/-- A JMP word: every selector is a condition code (42 R69). -/
def readJmp (selector : BitVec 3) (argument : BitVec 5) : Instr :=
  match selector.toNat with
  | 0 => .encodeJmp (widen argument)
  | 1 => .encodeJmpNotX (widen argument)
  | 2 => .encodeJmpXDec (widen argument)
  | 3 => .encodeJmpNotY (widen argument)
  | 4 => .encodeJmpYDec (widen argument)
  | 5 => .encodeJmpXNeY (widen argument)
  | 6 => .encodeJmpPin (widen argument)
  | _ => .encodeJmpNotOsre (widen argument)

/-- A WAIT word (43 R78). -/
def readWait (selector : BitVec 3) (argument : BitVec 5) : Instr :=
  match (selector.extractLsb' 0 2).toNat with
  | 0 => .encodeWaitGpio (selector.getLsbD 2) (widen argument)
  | 1 => .encodeWaitPin (selector.getLsbD 2) (widen argument)
  | 2 =>
      if argument.getLsbD 3 then .encodeArgsWait (widen selector) (widen argument)
      else .encodeWaitIrq (selector.getLsbD 2) (argument.getLsbD 4) (widen (argument.extractLsb' 0 3))
  | _ => .encodeArgsWait (widen selector) (widen argument)

/-- An IN word (44 R83). -/
def readIn (selector : BitVec 3) (argument : BitVec 5) : Instr :=
  match operandFor .inSrc selector with
  | some o => .encodeIn o (countOf argument)
  | none => .encodeArgsIn (widen selector) (countOf argument)

/-- An OUT word (44 R84). -/
def readOut (selector : BitVec 3) (argument : BitVec 5) : Instr :=
  match operandFor .outDest selector with
  | some o => .encodeOut o (countOf argument)
  | none => .encodeArgsOut (widen selector) (countOf argument)

/-- A PUSH or PULL word: bit 7 tells them apart (30 R41, 45 R85). -/
def readPushPull (selector : BitVec 3) (argument : BitVec 5) : Instr :=
  if selector.getLsbD 2 then
    if argument = 0 then .encodePull (selector.getLsbD 1) (selector.getLsbD 0)
    else .encodeArgsPull (widen (selector.extractLsb' 0 2)) (widen argument)
  else
    if argument = 0 then .encodePush (selector.getLsbD 1) (selector.getLsbD 0)
    else .encodeArgsPush (widen selector) (widen argument)

/-- A MOV word (46 R88), the word of NOP first (46 R92). -/
def readMov (selector : BitVec 3) (argument : BitVec 5) : Instr :=
  if selector = 0b010 ∧ argument = 0b00010 then .encodeNop else
  match operandFor .movDest selector, operandFor .movSrc (argument.extractLsb' 0 3),
      (argument.extractLsb' 3 2).toNat with
  | some d, some s, 0 => .encodeMov d s
  | some d, some s, 1 => .encodeMovNot d s
  | some d, some s, 2 => .encodeMovReverse d s
  | _, _, _ => .encodeArgsMov (widen selector) (widen argument)

/-- An IRQ word (47 R93). -/
def readIrq (selector : BitVec 3) (argument : BitVec 5) : Instr :=
  if argument.getLsbD 3 then .encodeArgsIrq (widen selector) (widen argument) else
  match selector.toNat with
  | 0 => .encodeIrqSet (argument.getLsbD 4) (widen (argument.extractLsb' 0 3))
  | 1 => .encodeIrqWait (argument.getLsbD 4) (widen (argument.extractLsb' 0 3))
  | 2 => .encodeIrqClear (argument.getLsbD 4) (widen (argument.extractLsb' 0 3))
  | _ => .encodeArgsIrq (widen selector) (widen argument)

/-- A SET word (48 R98). -/
def readSet (selector : BitVec 3) (argument : BitVec 5) : Instr :=
  match operandFor .setDest selector with
  | some o => .encodeSet o (widen argument)
  | none => .encodeArgsSet (widen selector) (widen argument)

/-- A word with bits[12:8] zero, by its class bits (30 R39). -/
def readBase (major selector : BitVec 3) (argument : BitVec 5) : Instr :=
  match major.toNat with
  | 0 => readJmp selector argument
  | 1 => readWait selector argument
  | 2 => readIn selector argument
  | 3 => readOut selector argument
  | 4 => readPushPull selector argument
  | 5 => readMov selector argument
  | 6 => readIrq selector argument
  | _ => readSet selector argument

/-- Field bits, by how many of their low bits are zero (49 R103). -/
def readField (field : BitVec 5) : Instr :=
  if field.getLsbD 4 then
    if field = 0b10000 then .encodeSideset1 1
    else if field.extractLsb' 0 3 = 0 then .encodeSidesetOpt1 (widen (field.extractLsb' 3 1))
    else if field.extractLsb' 0 2 = 0 then .encodeSidesetOpt2 (widen (field.extractLsb' 2 2))
    else if field.extractLsb' 0 1 = 0 then .encodeSidesetOpt3 (widen (field.extractLsb' 1 3))
    else .encodeSidesetOpt4 4 (widen (field.extractLsb' 0 4))
  else
    if field.extractLsb' 0 3 = 0 then .encodeSideset2 (widen (field.extractLsb' 3 2))
    else if field.extractLsb' 0 2 = 0 then .encodeSideset3 (widen (field.extractLsb' 2 3))
    else if field.extractLsb' 0 1 = 0 then .encodeSideset4 (widen (field.extractLsb' 1 4))
    else .encodeDelay (widen field)

/-- ONE instruction whose result, on in-range inputs, is the word. Many may have that result (30 R54);
the choice is the model's (entry 5): the row with the most fixed bits whose operands are allowed, a
per-operation encoder before the raw core operations, then the table's order. ONE EXCEPTION, the model's choice
too: a word with zero field bits is always read as an instruction encoder's, so 0x0000 is read as
`encode_jmp(0)`, not as `encode_sideset(1, 0)`, whose row has more fixed bits. -/
def readWord (w : Word) : Except WordError Instr :=
  let major := w.extractLsb' 13 3
  let field := w.extractLsb' 8 5
  let selector := w.extractLsb' 5 3
  let argument := w.extractLsb' 0 5
  if field = 0 then .ok (readBase major selector argument)
  else if major = 0 ∧ selector = 0 ∧ argument = 0 then .ok (readField field)
  else .error (.fieldBitsOnBase w)

/-- The host's question about a table word of `nbits` bits (every row has 16): the instruction `readWord`
reads. There is one word and no byte order (20 R31). -/
def decodeTableWord (nbits w : Nat) : Option Instr :=
  if nbits ≤ 16 ∧ w < 2 ^ nbits then
    match readWord (BitVec.ofNat 16 w) with
    | .ok i => some i
    | .error _ => none
  else none

end Sys2Proof
end

