-- ==== Sys2Proof/Machine/State.lean ====
section
/-! DEFINITION. The state of the block: its straps, its input and output ports, and the model's count of free
values; the causes of an abort; the reasons a step stops. PIOENC has no mutable architectural state
(10 R13 to R15, R27): no register, no program counter, no flag, no memory. -/

namespace Sys2Proof.Machine

/-- The fourteen causes of an abort (60 R110), with the spec's identifiers. -/
inductive Cause where
  /-- `A_SEL_RANGE`: not `selector <= 7` -/
  | aSelRange
  /-- `A_ARG_RANGE_INOUT`: not `1 <= argument <= 32`, class IN or OUT -/
  | aArgRangeInout
  /-- `A_ARG_RANGE`: not `argument <= 31`, any other class -/
  | aArgRange
  /-- `A_IRQ_RANGE`: not `irq <= 7` -/
  | aIrqRange
  /-- `A_IN_SRC`: the operand is forbidden as source of IN -/
  | aInSrc
  /-- `A_OUT_DEST`: the operand is forbidden as destination of OUT -/
  | aOutDest
  /-- `A_SET_DEST`: the operand is forbidden as destination of SET -/
  | aSetDest
  /-- `A_MOV_DEST`: the operand is forbidden as destination of MOV -/
  | aMovDest
  /-- `A_MOV_SRC`: the operand is forbidden as source of MOV -/
  | aMovSrc
  /-- `A_DELAY_RANGE`: not `cycles <= 31` -/
  | aDelayRange
  /-- `A_SIDESET_COUNT`: not `1 <= bit_count <= 5` -/
  | aSidesetCount
  /-- `A_SIDESET_VALUE`: not `value <= 2^bit_count - 1` -/
  | aSidesetValue
  /-- `A_SIDESET_OPT_COUNT`: not `1 <= bit_count <= 4` -/
  | aSidesetOptCount
  /-- `A_SIDESET_OPT_VALUE`: not `value <= 2^bit_count - 1` -/
  | aSidesetOptValue
  deriving DecidableEq, Repr

/-- What stands on the three output ports (10 R23) when the request has an outcome. -/
structure OutputPorts where
  /-- `word[15:0]`; absent when it is not to be read, which is exactly when `abort` is 1 -/
  word  : Option Word
  /-- `abort`, 1 exactly when the outcome is an abort -/
  abort : Bool
  /-- `cause[3:0]`; code 0 is "no abort" (60 R110) -/
  cause : BitVec 4
  deriving DecidableEq, Repr

/-- The state: the straps (10 R16), the input ports (10 R22), the output ports (10 R23), and the model's own
count of free values drawn (49 R105, entry 10). -/
structure State where
  /-- `VAL_MODULE` -/
  valModule     : Bool
  /-- `VAL_ENABLE_ALL` -/
  valEnableAll  : Bool
  /-- `VAL_DISABLE_ALL` -/
  valDisableAll : Bool
  /-- the request on the input ports -/
  inputs        : Request
  /-- `word`, `abort` and `cause`: every act that sets an input drives them at once (10 R26, Machine/Ports.lean);
  absent while a code outside the enumerations stands on the inputs, which has no outcome (93 U7, entry 12) -/
  outputs       : Option OutputPorts
  /-- the MODEL's own: how many free values have been drawn -/
  draws         : Nat
  deriving DecidableEq, Repr

/-- Why the machine stops. -/
inductive Fault where
  /-- `Abort(cause)`: raised by the first failed `require` of an operation, only when VALIDATE is 1
  (60 R109). Terminal: no word, nothing saved, no return (60 R113, R116; entry 11). Safe: it refutes any
  claim that a run produced a word (60 R124). -/
  | abort (cause : Cause)
  deriving DecidableEq, Repr

/-- Why the model gives no meaning. -/
inductive Refusal where
  /-- An instruction whose arm of `exec` has no meaning yet; no arm uses it now. Safe. -/
  | notModelled (mnemonic : String)
  /-- The input ports hold a code outside a closed enumeration (10 R20, 93 U7); raised by `step`. Safe: the
  spec says a port-level model must give such a request no outcome (entry 12). -/
  | noSuchRequest (why : RequestError)
  deriving DecidableEq, Repr

/-- The machine before any invocation. The spec has no reset (10 R25, 70 R125); straps and input ports are
the integration's to set and get 0 here (DESIGN CHOICE, entries 2 and 3), and the output ports then hold
what they hold for these inputs: the word of `encode_args(JMP, 0, 0)` and no abort (10 R26). -/
def State.reset : State where
  valModule := false
  valEnableAll := false
  valDisableAll := false
  inputs := { op := 0, cls := 0, opdA := 0, opdB := 0, numA := 0, numB := 0, flagA := false, flagB := false }
  outputs := some { word := some 0, abort := false, cause := 0 }
  draws := 0

end Sys2Proof.Machine
end

