-- ==== Sys2Proof/Machine/Ops.lean ====
section
/-! DEFINITION. The named operations: the validation gate, `require`, the abort, the ports, and the core that
every wrapper delegates to. An operation yields `Word(w)` or `Abort(cause)` and nothing else (00 section 4):
`Except Cause Word`. Numbers are naturals, as in the spec's notation; only a result is cut to 16 bits. -/

namespace Sys2Proof.Machine

/-- `trunc16(n) = n mod 65536` (00 section 4). -/
def trunc16 (n : Nat) : Word := BitVec.ofNat 16 n

/-- The gate: `(VAL_MODULE | VAL_ENABLE_ALL) & ~VAL_DISABLE_ALL` (10 R17). -/
def State.validate (s : State) : Bool :=
  (s.valModule || s.valEnableAll) && !s.valDisableAll

/-- The output ports after a word: `abort` 0 and `cause` 0 (10 R23, 60 R110). -/
def State.drive (s : State) (w : Word) : State :=
  { s with outputs := some { word := some w, abort := false, cause := 0 } }

/-- One more free value drawn, if `used` (entry 10). -/
def State.drawn (s : State) (used : Bool) : State := { s with draws := if used then s.draws + 1 else s.draws }

/-- The 4-bit code of a cause on the `cause` port (60 R110). -/
def causeCode : Cause → BitVec 4
  | .aSelRange => 1
  | .aArgRangeInout => 2
  | .aArgRange => 3
  | .aIrqRange => 4
  | .aInSrc => 5
  | .aOutDest => 6
  | .aSetDest => 7
  | .aMovDest => 8
  | .aMovSrc => 9
  | .aDelayRange => 10
  | .aSidesetCount => 11
  | .aSidesetValue => 12
  | .aSidesetOptCount => 13
  | .aSidesetOptValue => 14

/-- TAKING THE ABORT, the block's only exception (60 R113): the invocation ends with the cause and no word;
nothing is saved, no mode changes, there is no vector and no handler. There is no return from it and no
return operation (60 R116), so none stands beside it. -/
def raiseAbort (cause : Cause) : Host.Outcome State Fault Refusal := .fault (.abort cause)

/-- The outcome of an operation as the outcome of a step. -/
def complete (result : Except Cause Word) (s : State) : Host.Outcome State Fault Refusal :=
  match result with
  | .ok w => .next (s.drive w)
  | .error cause => raiseAbort cause

/-- The output ports as the outcome of a step leaves them (10 R23); a request outside the enumerations has no
outcome (93 U7). -/
def portView : Host.Outcome State Fault Refusal → Option OutputPorts
  | .next s => s.outputs
  | .fault (.abort cause) => some { word := none, abort := true, cause := causeCode cause }
  | .refused _ => none

/-- `require(cond, cause)` (00 section 4, 60 R109): the only way an abort arises. -/
def require (validate cond : Bool) (cause : Cause) : Except Cause Unit :=
  if validate && !cond then .error cause else .ok ()

/-- The range check of the core's argument: IN and OUT by tag identity (41 R64, decision D18). -/
def requireArgument (validate : Bool) (cls : OpClass) (argument : Nat) : Except Cause Unit :=
  if cls = .in_ ∨ cls = .out then
    require validate (1 ≤ argument ∧ argument ≤ 32) .aArgRangeInout
  else
    require validate (argument ≤ 31) .aArgRange

/-- The packing formula `TAG(cls) | (selector << 5) | (argument & 0x1f)`, cut to 16 bits: the argument is
masked, the selector is not (41 R63, R65; 90 C3). -/
def pack (cls : OpClass) (selector argument : Nat) : Word :=
  trunc16 ((K.tag cls).toNat ||| (selector <<< 5) ||| (argument &&& 0x1f))

/-- `encode_args`: the core packer (41 R63). -/
def encodeArgs (validate : Bool) (cls : OpClass) (selector argument : Nat) : Except Cause Word := do
  require validate (selector ≤ 7) .aSelRange
  requireArgument validate cls argument
  return pack cls selector argument

/-- `encode_args_with_operand`: the operand masked to its selector, no legality check (41 R66). -/
def encodeArgsWithOperand (validate : Bool) (cls : OpClass) (operand : Operand) (value : Nat) :
    Except Cause Word :=
  encodeArgs validate cls (selNat operand) value

/-- `irq_num`: the shared IRQ-number helper; the check comes first (41 R67). -/
def irqNum (validate relative : Bool) (irq : Nat) : Except Cause Nat := do
  require validate (irq ≤ 7) .aIrqRange
  return irqComposite relative irq

/-- The legality check of a wrapper: `require(not FORBID(o, u), cause_u)` (40 R59). -/
def requireAllowed (validate : Bool) (o : Operand) (u : UseClass) (cause : Cause) : Except Cause Unit :=
  require validate (!K.forbid o u) cause

end Sys2Proof.Machine
end

