-- ==== Sys2Proof/Machine/EncodeArgs.lean ====
section
/-! DEFINITION. The two core operations, one meaning per class (41 R63 to R66). -/

namespace Sys2Proof.Machine

/-- `encode_args` for a class, on the state's configuration (41 R63, R64, R65). -/
def runEncodeArgs (cls : OpClass) (selector argument : WNum) (s : State) : Host.Outcome State Fault Refusal :=
  complete (encodeArgs s.validate cls selector.toNat argument.toNat) s

/-- `encode_args_with_operand` for a class, on the state's configuration (41 R66). -/
def runEncodeArgsWithOperand (cls : OpClass) (operand : Operand) (value : WNum) (s : State) :
    Host.Outcome State Fault Refusal :=
  complete (encodeArgsWithOperand s.validate cls operand value.toNat) s

/-- `encode_args(JMP, selector, argument)` (41 R63). -/
def execEncodeArgsJmp (selector argument : WNum) (s : State) : Host.Outcome State Fault Refusal :=
  runEncodeArgs .jmp selector argument s

/-- `encode_args(WAIT, selector, argument)` (41 R63). -/
def execEncodeArgsWait (selector argument : WNum) (s : State) : Host.Outcome State Fault Refusal :=
  runEncodeArgs .wait selector argument s

/-- `encode_args(IN, selector, argument)` (41 R63). -/
def execEncodeArgsIn (selector argument : WNum) (s : State) : Host.Outcome State Fault Refusal :=
  runEncodeArgs .in_ selector argument s

/-- `encode_args(OUT, selector, argument)` (41 R63). -/
def execEncodeArgsOut (selector argument : WNum) (s : State) : Host.Outcome State Fault Refusal :=
  runEncodeArgs .out selector argument s

/-- `encode_args(PUSH, selector, argument)` (41 R63). -/
def execEncodeArgsPush (selector argument : WNum) (s : State) : Host.Outcome State Fault Refusal :=
  runEncodeArgs .push selector argument s

/-- `encode_args(PULL, selector, argument)` (41 R63). -/
def execEncodeArgsPull (selector argument : WNum) (s : State) : Host.Outcome State Fault Refusal :=
  runEncodeArgs .pull selector argument s

/-- `encode_args(MOV, selector, argument)` (41 R63). -/
def execEncodeArgsMov (selector argument : WNum) (s : State) : Host.Outcome State Fault Refusal :=
  runEncodeArgs .mov selector argument s

/-- `encode_args(IRQ, selector, argument)` (41 R63). -/
def execEncodeArgsIrq (selector argument : WNum) (s : State) : Host.Outcome State Fault Refusal :=
  runEncodeArgs .irq selector argument s

/-- `encode_args(SET, selector, argument)` (41 R63). -/
def execEncodeArgsSet (selector argument : WNum) (s : State) : Host.Outcome State Fault Refusal :=
  runEncodeArgs .set selector argument s

/-- `encode_args_with_operand(JMP, operand, value)` (41 R66). -/
def execEncodeArgsWithOperandJmp (operand : Operand) (value : WNum) (s : State) : Host.Outcome State Fault Refusal :=
  runEncodeArgsWithOperand .jmp operand value s

/-- `encode_args_with_operand(WAIT, operand, value)` (41 R66). -/
def execEncodeArgsWithOperandWait (operand : Operand) (value : WNum) (s : State) : Host.Outcome State Fault Refusal :=
  runEncodeArgsWithOperand .wait operand value s

/-- `encode_args_with_operand(IN, operand, value)` (41 R66). -/
def execEncodeArgsWithOperandIn (operand : Operand) (value : WNum) (s : State) : Host.Outcome State Fault Refusal :=
  runEncodeArgsWithOperand .in_ operand value s

/-- `encode_args_with_operand(OUT, operand, value)` (41 R66). -/
def execEncodeArgsWithOperandOut (operand : Operand) (value : WNum) (s : State) : Host.Outcome State Fault Refusal :=
  runEncodeArgsWithOperand .out operand value s

/-- `encode_args_with_operand(PUSH, operand, value)` (41 R66). -/
def execEncodeArgsWithOperandPush (operand : Operand) (value : WNum) (s : State) : Host.Outcome State Fault Refusal :=
  runEncodeArgsWithOperand .push operand value s

/-- `encode_args_with_operand(PULL, operand, value)` (41 R66). -/
def execEncodeArgsWithOperandPull (operand : Operand) (value : WNum) (s : State) : Host.Outcome State Fault Refusal :=
  runEncodeArgsWithOperand .pull operand value s

/-- `encode_args_with_operand(MOV, operand, value)` (41 R66). -/
def execEncodeArgsWithOperandMov (operand : Operand) (value : WNum) (s : State) : Host.Outcome State Fault Refusal :=
  runEncodeArgsWithOperand .mov operand value s

/-- `encode_args_with_operand(IRQ, operand, value)` (41 R66). -/
def execEncodeArgsWithOperandIrq (operand : Operand) (value : WNum) (s : State) : Host.Outcome State Fault Refusal :=
  runEncodeArgsWithOperand .irq operand value s

/-- `encode_args_with_operand(SET, operand, value)` (41 R66). -/
def execEncodeArgsWithOperandSet (operand : Operand) (value : WNum) (s : State) : Host.Outcome State Fault Refusal :=
  runEncodeArgsWithOperand .set operand value s

end Sys2Proof.Machine
end

