-- ==== Sys2Proof/Machine/FieldEncoders.lean ====
section
/-! DEFINITION. The field encoders (49): delay, side-set, optional side-set. A negative shift amount is
UNSPECIFIED16, a free value (49 R105, entry 10). -/

namespace Sys2Proof.Machine

/-- `encode_delay` (49 R100): the value is not masked. -/
def encodeDelay (validate : Bool) (cycles : Nat) : Except Cause Word := do
  require validate (cycles ≤ 31) .aDelayRange
  return trunc16 (cycles <<< 8)

/-- `encode_sideset` (49 R101); `free` stands for UNSPECIFIED16. -/
def encodeSideset (validate : Bool) (free : Word) (bitCount value : Nat) : Except Cause Word := do
  require validate (1 ≤ bitCount ∧ bitCount ≤ 5) .aSidesetCount
  require validate (value ≤ 2 ^ bitCount - 1) .aSidesetValue
  if K.sidesetTop .plain < bitCount then return free
  return trunc16 (value <<< (K.sidesetTop .plain - bitCount))

/-- `encode_sideset_opt` (49 R102); `free` stands for UNSPECIFIED16. -/
def encodeSidesetOpt (validate : Bool) (free : Word) (bitCount value : Nat) : Except Cause Word := do
  require validate (1 ≤ bitCount ∧ bitCount ≤ 4) .aSidesetOptCount
  require validate (value ≤ 2 ^ bitCount - 1) .aSidesetOptValue
  if K.sidesetTop .optional < bitCount then return free
  return trunc16 (K.sidesetOptEn ||| (value <<< (K.sidesetTop .optional - bitCount)))

/-- A side-set encoder on the state: the free value comes from the state's draw count, which advances when
the free value is the result (entry 10). -/
def runSideset (form : SidesetForm) (bitCount value : Nat) (s : State) : Host.Outcome State Fault Refusal :=
  let free := Config.negShift s.draws form bitCount value
  let result := match form with
    | .plain => encodeSideset s.validate free bitCount value
    | .optional => encodeSidesetOpt s.validate free bitCount value
  complete result (s.drawn (decide (K.sidesetTop form < bitCount)))

/-- `encode_delay(cycles)` (49 R100). -/
def execEncodeDelay (cycles : WNum) (s : State) : Host.Outcome State Fault Refusal :=
  complete (encodeDelay s.validate cycles.toNat) s

/-- `encode_sideset(1, value)` (49 R101). -/
def execEncodeSideset1 (value : WNum) (s : State) : Host.Outcome State Fault Refusal :=
  runSideset .plain 1 value.toNat s

/-- `encode_sideset(2, value)` (49 R101). -/
def execEncodeSideset2 (value : WNum) (s : State) : Host.Outcome State Fault Refusal :=
  runSideset .plain 2 value.toNat s

/-- `encode_sideset(3, value)` (49 R101). -/
def execEncodeSideset3 (value : WNum) (s : State) : Host.Outcome State Fault Refusal :=
  runSideset .plain 3 value.toNat s

/-- `encode_sideset(4, value)` (49 R101). -/
def execEncodeSideset4 (value : WNum) (s : State) : Host.Outcome State Fault Refusal :=
  runSideset .plain 4 value.toNat s

/-- `encode_sideset(bit_count, value)` for 5 and for every bit count without a row (49 R101, R105; entry 6). -/
def execEncodeSideset5 (bitCount value : WNum) (s : State) : Host.Outcome State Fault Refusal :=
  runSideset .plain bitCount.toNat value.toNat s

/-- `encode_sideset_opt(1, value)` (49 R102). -/
def execEncodeSidesetOpt1 (value : WNum) (s : State) : Host.Outcome State Fault Refusal :=
  runSideset .optional 1 value.toNat s

/-- `encode_sideset_opt(2, value)` (49 R102). -/
def execEncodeSidesetOpt2 (value : WNum) (s : State) : Host.Outcome State Fault Refusal :=
  runSideset .optional 2 value.toNat s

/-- `encode_sideset_opt(3, value)` (49 R102). -/
def execEncodeSidesetOpt3 (value : WNum) (s : State) : Host.Outcome State Fault Refusal :=
  runSideset .optional 3 value.toNat s

/-- `encode_sideset_opt(bit_count, value)` for 4 and for every bit count without a row (49 R102, R105; entry 6). -/
def execEncodeSidesetOpt4 (bitCount value : WNum) (s : State) : Host.Outcome State Fault Refusal :=
  runSideset .optional bitCount.toNat value.toNat s

end Sys2Proof.Machine
end

