-- ==== Sys2Proof/Machine/InOut.lean ====
section
/-! DEFINITION. The IN and OUT encoders (44): legality of the operand first, then the core, which checks the
count 1 to 32 and packs 32 as 0 (44 R82, 70 R133). -/

namespace Sys2Proof.Machine

/-- `encode_in` (44 R83). -/
def encodeIn (validate : Bool) (src : Operand) (count : Nat) : Except Cause Word := do
  requireAllowed validate src .inSrc .aInSrc
  encodeArgsWithOperand validate .in_ src count

/-- `encode_out` (44 R84). -/
def encodeOut (validate : Bool) (dest : Operand) (count : Nat) : Except Cause Word := do
  requireAllowed validate dest .outDest .aOutDest
  encodeArgsWithOperand validate .out dest count

/-- `encode_in(src, count)` (44 R83). -/
def execEncodeIn (src : Operand) (count : WNum) (s : State) : Host.Outcome State Fault Refusal :=
  complete (encodeIn s.validate src count.toNat) s

/-- `encode_out(dest, count)` (44 R84). -/
def execEncodeOut (dest : Operand) (count : WNum) (s : State) : Host.Outcome State Fault Refusal :=
  complete (encodeOut s.validate dest count.toNat) s

end Sys2Proof.Machine
end

