-- ==== Sys2Proof/Machine/Irq.lean ====
section
/-! DEFINITION. The three IRQ encoders (47): the IRQ-number helper, then the core. No interrupt is raised,
waited for or cleared here (60 R114). -/

namespace Sys2Proof.Machine

/-- The IRQ encoders (47 R93). -/
def encodeIrq (validate : Bool) (sub : IrqSub) (relative : Bool) (irq : Nat) : Except Cause Word := do
  let n ← irqNum validate relative irq
  encodeArgs validate .irq (K.irqSub sub) n

/-- `encode_irq_set(relative, irq)` (47 R94). -/
def execEncodeIrqSet (relative : Bool) (irq : WNum) (s : State) : Host.Outcome State Fault Refusal :=
  complete (encodeIrq s.validate .set relative irq.toNat) s

/-- `encode_irq_wait(relative, irq)` (47 R95). -/
def execEncodeIrqWait (relative : Bool) (irq : WNum) (s : State) : Host.Outcome State Fault Refusal :=
  complete (encodeIrq s.validate .wait relative irq.toNat) s

/-- `encode_irq_clear(relative, irq)` (47 R96). -/
def execEncodeIrqClear (relative : Bool) (irq : WNum) (s : State) : Host.Outcome State Fault Refusal :=
  complete (encodeIrq s.validate .clear relative irq.toNat) s

end Sys2Proof.Machine
end

