-- ==== Sys2Proof/Machine/Jmp.lean ====
section
/-! DEFINITION. The eight JMP encoders: each packs its own condition code and the address and does nothing
else (42 R69). No control transfer happens here (10 R14). -/

namespace Sys2Proof.Machine

/-- `encode_args(JMP, cond, addr)` (42 R69). -/
def runJmp (cond : JmpCond) (addr : WNum) (s : State) : Host.Outcome State Fault Refusal :=
  complete (encodeArgs s.validate .jmp (K.jmpCond cond) addr.toNat) s

/-- `encode_jmp(addr)` (42 R70). -/
def execEncodeJmp (addr : WNum) (s : State) : Host.Outcome State Fault Refusal :=
  runJmp .always addr s

/-- `encode_jmp_not_x(addr)` (42 R71). -/
def execEncodeJmpNotX (addr : WNum) (s : State) : Host.Outcome State Fault Refusal :=
  runJmp .notX addr s

/-- `encode_jmp_x_dec(addr)` (42 R72). -/
def execEncodeJmpXDec (addr : WNum) (s : State) : Host.Outcome State Fault Refusal :=
  runJmp .xDec addr s

/-- `encode_jmp_not_y(addr)` (42 R73). -/
def execEncodeJmpNotY (addr : WNum) (s : State) : Host.Outcome State Fault Refusal :=
  runJmp .notY addr s

/-- `encode_jmp_y_dec(addr)` (42 R74). -/
def execEncodeJmpYDec (addr : WNum) (s : State) : Host.Outcome State Fault Refusal :=
  runJmp .yDec addr s

/-- `encode_jmp_x_ne_y(addr)` (42 R75). -/
def execEncodeJmpXNeY (addr : WNum) (s : State) : Host.Outcome State Fault Refusal :=
  runJmp .xNeY addr s

/-- `encode_jmp_pin(addr)` (42 R76). -/
def execEncodeJmpPin (addr : WNum) (s : State) : Host.Outcome State Fault Refusal :=
  runJmp .pin addr s

/-- `encode_jmp_not_osre(addr)` (42 R77). -/
def execEncodeJmpNotOsre (addr : WNum) (s : State) : Host.Outcome State Fault Refusal :=
  runJmp .notOsre addr s

end Sys2Proof.Machine
end

