-- ==== Sys2Proof/Machine/MovNop.lean ====
section
/-! DEFINITION. The three MOV encoders and NOP (46): destination in the selector field, operation tag and
source in the argument field (90 C1, C8); destination checked before source (60 R115). -/

namespace Sys2Proof.Machine

/-- The MOV encoders (46 R88 to R91). -/
def encodeMov (validate : Bool) (op : MovOp) (dest src : Operand) : Except Cause Word := do
  requireAllowed validate dest .movDest .aMovDest
  requireAllowed validate src .movSrc .aMovSrc
  encodeArgsWithOperand validate .mov dest (movArgument op src)

/-- `encode_mov(dest, src)` (46 R89). -/
def execEncodeMov (dest src : Operand) (s : State) : Host.Outcome State Fault Refusal :=
  complete (encodeMov s.validate .none dest src) s

/-- `encode_mov_not(dest, src)` (46 R90). -/
def execEncodeMovNot (dest src : Operand) (s : State) : Host.Outcome State Fault Refusal :=
  complete (encodeMov s.validate .not dest src) s

/-- `encode_mov_reverse(dest, src)` (46 R91). -/
def execEncodeMovReverse (dest src : Operand) (s : State) : Host.Outcome State Fault Refusal :=
  complete (encodeMov s.validate .reverse dest src) s

/-- `encode_nop()` is `encode_mov(y, y)` (46 R92). -/
def execEncodeNop (s : State) : Host.Outcome State Fault Refusal :=
  complete (encodeMov s.validate .none .y .y) s

end Sys2Proof.Machine
end

