-- ==== Sys2Proof/Machine/PushPull.lean ====
section
/-! DEFINITION. The PUSH and PULL encoders (45): two flag bits in the selector, argument 0. -/

namespace Sys2Proof.Machine

/-- `encode_args(cls, (if << 1) | block, 0)` (45 R85). -/
def runPushPull (cls : OpClass) (ifFlag block : Bool) (s : State) : Host.Outcome State Fault Refusal :=
  complete (encodeArgs s.validate cls (ppSelector ifFlag block) 0) s

/-- `encode_push(if_full, block)` (45 R86). -/
def execEncodePush (ifFull block : Bool) (s : State) : Host.Outcome State Fault Refusal :=
  runPushPull .push ifFull block s

/-- `encode_pull(if_empty, block)` (45 R87). -/
def execEncodePull (ifEmpty block : Bool) (s : State) : Host.Outcome State Fault Refusal :=
  runPushPull .pull ifEmpty block s

end Sys2Proof.Machine
end

