-- ==== Sys2Proof/Machine/Set.lean ====
section
/-! DEFINITION. The SET encoder (48): legality of the destination first, then the core. -/

namespace Sys2Proof.Machine

/-- `encode_set` (48 R98). -/
def encodeSet (validate : Bool) (dest : Operand) (value : Nat) : Except Cause Word := do
  requireAllowed validate dest .setDest .aSetDest
  encodeArgsWithOperand validate .set dest value

/-- `encode_set(dest, value)` (48 R98). -/
def execEncodeSet (dest : Operand) (value : WNum) (s : State) : Host.Outcome State Fault Refusal :=
  complete (encodeSet s.validate dest value.toNat) s

end Sys2Proof.Machine
end

