-- ==== Sys2Proof/Machine/Wait.lean ====
section
/-! DEFINITION. The three WAIT encoders (43). PIOENC waits for nothing: they pack (20 R35). -/

namespace Sys2Proof.Machine

/-- WAIT on an index: `encode_args(WAIT, source | polarity, index)` (43 R78). -/
def runWaitIndex (src : WaitSrc) (polarity : Bool) (index : WNum) (s : State) :
    Host.Outcome State Fault Refusal :=
  complete (encodeArgs s.validate .wait (waitSelector src polarity) index.toNat) s

/-- WAIT on an IRQ: the helper first, then the packer (43 R81). -/
def encodeWaitIrq (validate polarity relative : Bool) (irq : Nat) : Except Cause Word := do
  let n ← irqNum validate relative irq
  encodeArgs validate .wait (waitSelector .irq polarity) n

/-- `encode_wait_gpio(polarity, gpio)` (43 R79). -/
def execEncodeWaitGpio (polarity : Bool) (gpio : WNum) (s : State) : Host.Outcome State Fault Refusal :=
  runWaitIndex .gpio polarity gpio s

/-- `encode_wait_pin(polarity, pin)` (43 R80). -/
def execEncodeWaitPin (polarity : Bool) (pin : WNum) (s : State) : Host.Outcome State Fault Refusal :=
  runWaitIndex .pin polarity pin s

/-- `encode_wait_irq(polarity, relative, irq)` (43 R81). -/
def execEncodeWaitIrq (polarity relative : Bool) (irq : WNum) (s : State) : Host.Outcome State Fault Refusal :=
  complete (encodeWaitIrq s.validate polarity relative irq.toNat) s

end Sys2Proof.Machine
end

