-- ==== Sys2Proof/Machine/Dispatch.lean ====
section
/-! DEFINITION. One arm per instruction, each one call of its meaning. -/

namespace Sys2Proof.Machine

/-- The effect of an instruction on a state: one invocation of PIOENC (10 R21). -/
def exec (i : Instr) (s : State) : Host.Outcome State Fault Refusal :=
  match i with
  | .encodeArgsJmp selector argument => Sys2Proof.Machine.execEncodeArgsJmp selector argument s
  | .encodeArgsWait selector argument => Sys2Proof.Machine.execEncodeArgsWait selector argument s
  | .encodeArgsIn selector argument => Sys2Proof.Machine.execEncodeArgsIn selector argument s
  | .encodeArgsOut selector argument => Sys2Proof.Machine.execEncodeArgsOut selector argument s
  | .encodeArgsPush selector argument => Sys2Proof.Machine.execEncodeArgsPush selector argument s
  | .encodeArgsPull selector argument => Sys2Proof.Machine.execEncodeArgsPull selector argument s
  | .encodeArgsMov selector argument => Sys2Proof.Machine.execEncodeArgsMov selector argument s
  | .encodeArgsIrq selector argument => Sys2Proof.Machine.execEncodeArgsIrq selector argument s
  | .encodeArgsSet selector argument => Sys2Proof.Machine.execEncodeArgsSet selector argument s
  | .encodeArgsWithOperandJmp operand value => Sys2Proof.Machine.execEncodeArgsWithOperandJmp operand value s
  | .encodeArgsWithOperandWait operand value => Sys2Proof.Machine.execEncodeArgsWithOperandWait operand value s
  | .encodeArgsWithOperandIn operand value => Sys2Proof.Machine.execEncodeArgsWithOperandIn operand value s
  | .encodeArgsWithOperandOut operand value => Sys2Proof.Machine.execEncodeArgsWithOperandOut operand value s
  | .encodeArgsWithOperandPush operand value => Sys2Proof.Machine.execEncodeArgsWithOperandPush operand value s
  | .encodeArgsWithOperandPull operand value => Sys2Proof.Machine.execEncodeArgsWithOperandPull operand value s
  | .encodeArgsWithOperandMov operand value => Sys2Proof.Machine.execEncodeArgsWithOperandMov operand value s
  | .encodeArgsWithOperandIrq operand value => Sys2Proof.Machine.execEncodeArgsWithOperandIrq operand value s
  | .encodeArgsWithOperandSet operand value => Sys2Proof.Machine.execEncodeArgsWithOperandSet operand value s
  | .encodeJmp addr => Sys2Proof.Machine.execEncodeJmp addr s
  | .encodeJmpNotX addr => Sys2Proof.Machine.execEncodeJmpNotX addr s
  | .encodeJmpXDec addr => Sys2Proof.Machine.execEncodeJmpXDec addr s
  | .encodeJmpNotY addr => Sys2Proof.Machine.execEncodeJmpNotY addr s
  | .encodeJmpYDec addr => Sys2Proof.Machine.execEncodeJmpYDec addr s
  | .encodeJmpXNeY addr => Sys2Proof.Machine.execEncodeJmpXNeY addr s
  | .encodeJmpPin addr => Sys2Proof.Machine.execEncodeJmpPin addr s
  | .encodeJmpNotOsre addr => Sys2Proof.Machine.execEncodeJmpNotOsre addr s
  | .encodeWaitGpio polarity gpio => Sys2Proof.Machine.execEncodeWaitGpio polarity gpio s
  | .encodeWaitPin polarity pin => Sys2Proof.Machine.execEncodeWaitPin polarity pin s
  | .encodeWaitIrq polarity relative irq => Sys2Proof.Machine.execEncodeWaitIrq polarity relative irq s
  | .encodeIn src count => Sys2Proof.Machine.execEncodeIn src count s
  | .encodeOut dest count => Sys2Proof.Machine.execEncodeOut dest count s
  | .encodePush ifFull block => Sys2Proof.Machine.execEncodePush ifFull block s
  | .encodePull ifEmpty block => Sys2Proof.Machine.execEncodePull ifEmpty block s
  | .encodeMov dest src => Sys2Proof.Machine.execEncodeMov dest src s
  | .encodeMovNot dest src => Sys2Proof.Machine.execEncodeMovNot dest src s
  | .encodeMovReverse dest src => Sys2Proof.Machine.execEncodeMovReverse dest src s
  | .encodeNop => Sys2Proof.Machine.execEncodeNop s
  | .encodeIrqSet relative irq => Sys2Proof.Machine.execEncodeIrqSet relative irq s
  | .encodeIrqWait relative irq => Sys2Proof.Machine.execEncodeIrqWait relative irq s
  | .encodeIrqClear relative irq => Sys2Proof.Machine.execEncodeIrqClear relative irq s
  | .encodeSet dest value => Sys2Proof.Machine.execEncodeSet dest value s
  | .encodeDelay cycles => Sys2Proof.Machine.execEncodeDelay cycles s
  | .encodeSideset1 value => Sys2Proof.Machine.execEncodeSideset1 value s
  | .encodeSideset2 value => Sys2Proof.Machine.execEncodeSideset2 value s
  | .encodeSideset3 value => Sys2Proof.Machine.execEncodeSideset3 value s
  | .encodeSideset4 value => Sys2Proof.Machine.execEncodeSideset4 value s
  | .encodeSideset5 bitCount value => Sys2Proof.Machine.execEncodeSideset5 bitCount value s
  | .encodeSidesetOpt1 value => Sys2Proof.Machine.execEncodeSidesetOpt1 value s
  | .encodeSidesetOpt2 value => Sys2Proof.Machine.execEncodeSidesetOpt2 value s
  | .encodeSidesetOpt3 value => Sys2Proof.Machine.execEncodeSidesetOpt3 value s
  | .encodeSidesetOpt4 bitCount value => Sys2Proof.Machine.execEncodeSidesetOpt4 bitCount value s

end Sys2Proof.Machine
end

