-- ==== Sys2Proof/Machine/Fetch.lean ====
section
/-! DEFINITION. Where the next instruction comes from: PIOENC has no program counter and no fetch (10 R14);
the request stands on the input ports (10 R22). -/

namespace Sys2Proof.Machine

/-- The instruction the input ports name. -/
def fetch (s : State) : Except RequestError Instr := decode s.inputs

/-- A request no operation answers to, for a table word that is no single result: an `op` above 27, which the
next step refuses (93 U7). -/
def noRequest : Request := blankRequest 31

/-- The request that stands for a table word: that of the instruction `decodeTableWord` reads (entry 4). -/
def requestOfWord (nbits w : Nat) : Request :=
  match decodeTableWord nbits w with
  | some i => encode i
  | none => noRequest

end Sys2Proof.Machine
end

