-- ==== Sys2Proof/Machine/Ports.lean ====
section
/-! DEFINITION. The block between its ports (10 R22, R23): the invocation that the input ports ask for, and the
output ports as the combinational function of the inputs (10 R26). Whoever sets an input drives the outputs. -/

namespace Sys2Proof.Machine

/-- The invocation that the input ports ask for; a code outside the enumerations is refused by name
(10 R20 to R23, 93 U7). -/
def evaluate (s : State) : Host.Outcome State Fault Refusal :=
  match fetch s with
  | .ok i => exec i s
  | .error why => .refused (.noSuchRequest why)

/-- The output ports as the combinational function of the inputs and straps (10 R24, R26). An aborting request
drives `abort` and `cause` while it stands; a request without an outcome drives nothing readable; a free value
shown is that of the coming draw (entries 10 to 12). -/
def State.combinational (s : State) : Option OutputPorts := portView (evaluate s)

/-- `s` with its outputs following its inputs. -/
def State.settle (s : State) : State := { s with outputs := s.combinational }

/-- The caller's act: it sets the input ports (10 R22), and the outputs follow (10 R26). -/
def State.present (s : State) (r : Request) : State := { s with inputs := r }.settle

/-- The integration's act: it sets the straps (10 R16), and the outputs follow (10 R26). -/
def State.strap (s : State) (m e d : Bool) : State :=
  { s with valModule := m, valEnableAll := e, valDisableAll := d }.settle

end Sys2Proof.Machine
end

