-- ==== Sys2Proof/Machine/Step.lean ====
section
/-! DEFINITION. One step: one invocation. -/

namespace Sys2Proof.Machine

/-- PIOENC evaluates the request on its input ports and drives its output ports (10 R21 to R23). The input
ports keep their request. -/
def step (s : State) : Host.Outcome State Fault Refusal := evaluate s

/-- The state in which the caller has put on the input ports the request whose result is the table word `w`
(entry 4); the output ports follow (10 R26). Nothing else changes. -/
def State.withFetchWord (s : State) (nbits w : Nat) : State := s.present (requestOfWord nbits w)

end Sys2Proof.Machine
end

