-- ==== Sys2Proof/Machine/Caller.lean ====
section
/-! DEFINITION. The caller's side: the OR-combination of a base word with field bits and the delay range a
side-set leaves (49 R106 to R108). No operation of PIOENC does or checks any of this. -/

namespace Sys2Proof.Machine

/-- `combine(base, f1, f2) = base | f1 | f2` (49 R106); an absent field is 0. -/
def combine (base f1 f2 : Word) : Word := base ||| f1 ||| f2

/-- How many of bits[12:8] a side-set of `n` bits takes: `n`, and one more for the optional flag (49 R103). -/
def sidesetWidth (form : SidesetForm) (n : Nat) : Nat :=
  match form with
  | .plain => n
  | .optional => n + 1

/-- The largest `cycles` a caller may use beside `n` side-set bits (49 R108). -/
def usableDelay (form : SidesetForm) (n : Nat) : Nat := 2 ^ (5 - sidesetWidth form n) - 1

end Sys2Proof.Machine
end

