-- ==== Sys2Proof/Safety.lean ====
section
/-! DEFINITION. The terms claims use: which requests are legal, in range, specified; what an invocation may
change; which word shapes are reserved. Nothing here is used by `step`. -/

namespace Sys2Proof.Machine

/-! ## The checks of a request (60 R110, R115) -/

/-- The range check of the core on its argument (41 R64). -/
def argumentCheck (cls : OpClass) (g : WNum) : Bool × Cause :=
  match cls with
  | .in_ => (decide (1 ≤ g.toNat ∧ g.toNat ≤ 32), .aArgRangeInout)
  | .out => (decide (1 ≤ g.toNat ∧ g.toNat ≤ 32), .aArgRangeInout)
  | _ => (decide (g.toNat ≤ 31), .aArgRange)

/-- The two checks of `encode_args` (60 R115). -/
def coreChecks (cls : OpClass) (k g : WNum) : List (Bool × Cause) :=
  [(decide (k.toNat ≤ 7), .aSelRange), argumentCheck cls g]

/-- The IRQ index check (41 R67). -/
def irqCheck (n : WNum) : List (Bool × Cause) := [(decide (n.toNat ≤ 7), .aIrqRange)]

/-- The two checks of a MOV encoder (60 R115). -/
def movChecks (dest src : Operand) : List (Bool × Cause) :=
  [(!K.forbid dest .movDest, .aMovDest), (!K.forbid src .movSrc, .aMovSrc)]

/-- The two checks of `encode_sideset` (60 R115). -/
def sidesetChecks (n v : Nat) : List (Bool × Cause) :=
  [(decide (1 ≤ n ∧ n ≤ 5), .aSidesetCount), (decide (v ≤ 2 ^ n - 1), .aSidesetValue)]

/-- The two checks of `encode_sideset_opt` (60 R115). -/
def sidesetOptChecks (n v : Nat) : List (Bool × Cause) :=
  [(decide (1 ≤ n ∧ n ≤ 4), .aSidesetOptCount), (decide (v ≤ 2 ^ n - 1), .aSidesetOptValue)]

/-- Every check of an operation, in order: the table of 60 R115. -/
def checks : Instr → List (Bool × Cause)
  | .encodeArgsJmp k g => coreChecks .jmp k g
  | .encodeArgsWait k g => coreChecks .wait k g
  | .encodeArgsIn k g => coreChecks .in_ k g
  | .encodeArgsOut k g => coreChecks .out k g
  | .encodeArgsPush k g => coreChecks .push k g
  | .encodeArgsPull k g => coreChecks .pull k g
  | .encodeArgsMov k g => coreChecks .mov k g
  | .encodeArgsIrq k g => coreChecks .irq k g
  | .encodeArgsSet k g => coreChecks .set k g
  | .encodeArgsWithOperandJmp _ g => [argumentCheck .jmp g]
  | .encodeArgsWithOperandWait _ g => [argumentCheck .wait g]
  | .encodeArgsWithOperandIn _ g => [argumentCheck .in_ g]
  | .encodeArgsWithOperandOut _ g => [argumentCheck .out g]
  | .encodeArgsWithOperandPush _ g => [argumentCheck .push g]
  | .encodeArgsWithOperandPull _ g => [argumentCheck .pull g]
  | .encodeArgsWithOperandMov _ g => [argumentCheck .mov g]
  | .encodeArgsWithOperandIrq _ g => [argumentCheck .irq g]
  | .encodeArgsWithOperandSet _ g => [argumentCheck .set g]
  | .encodeJmp a => [argumentCheck .jmp a]
  | .encodeJmpNotX a => [argumentCheck .jmp a]
  | .encodeJmpXDec a => [argumentCheck .jmp a]
  | .encodeJmpNotY a => [argumentCheck .jmp a]
  | .encodeJmpYDec a => [argumentCheck .jmp a]
  | .encodeJmpXNeY a => [argumentCheck .jmp a]
  | .encodeJmpPin a => [argumentCheck .jmp a]
  | .encodeJmpNotOsre a => [argumentCheck .jmp a]
  | .encodeWaitGpio _ i => [argumentCheck .wait i]
  | .encodeWaitPin _ i => [argumentCheck .wait i]
  | .encodeWaitIrq _ _ n => irqCheck n
  | .encodeIn src c => [(!K.forbid src .inSrc, .aInSrc), argumentCheck .in_ c]
  | .encodeOut dest c => [(!K.forbid dest .outDest, .aOutDest), argumentCheck .out c]
  | .encodePush _ _ => []
  | .encodePull _ _ => []
  | .encodeMov dest src => movChecks dest src
  | .encodeMovNot dest src => movChecks dest src
  | .encodeMovReverse dest src => movChecks dest src
  | .encodeNop => []
  | .encodeIrqSet _ n => irqCheck n
  | .encodeIrqWait _ n => irqCheck n
  | .encodeIrqClear _ n => irqCheck n
  | .encodeSet dest v => [(!K.forbid dest .setDest, .aSetDest), argumentCheck .set v]
  | .encodeDelay c => [(decide (c.toNat ≤ 31), .aDelayRange)]
  | .encodeSideset1 v => sidesetChecks 1 v.toNat
  | .encodeSideset2 v => sidesetChecks 2 v.toNat
  | .encodeSideset3 v => sidesetChecks 3 v.toNat
  | .encodeSideset4 v => sidesetChecks 4 v.toNat
  | .encodeSideset5 n v => sidesetChecks n.toNat v.toNat
  | .encodeSidesetOpt1 v => sidesetOptChecks 1 v.toNat
  | .encodeSidesetOpt2 v => sidesetOptChecks 2 v.toNat
  | .encodeSidesetOpt3 v => sidesetOptChecks 3 v.toNat
  | .encodeSidesetOpt4 n v => sidesetOptChecks n.toNat v.toNat

/-- The cause of the first check that fails (60 R115). -/
def firstFailure (i : Instr) : Option Cause := ((checks i).find? fun c => !c.1).map fun c => c.2

/-- Every check holds: the request violates no precondition (10 R18). -/
def legal (i : Instr) : Bool := (checks i).all fun c => c.1

/-- The causes of the second kind, illegal operand/class combination (60 R111). -/
def isOperandCause : Cause → Bool
  | .aInSrc => true
  | .aOutDest => true
  | .aSetDest => true
  | .aMovDest => true
  | .aMovSrc => true
  | _ => false

/-- Every number of the request is in its range; the operands may be forbidden ones (30 R46, R49). -/
def inRange (i : Instr) : Bool := (checks i).all fun c => c.1 || isOperandCause c.2

/-- The request's word, if there is one, is given by a formula: no negative shift amount (49 R105). -/
def specified : Instr → Bool
  | .encodeSideset5 n _ => decide (n.toNat ≤ 13)
  | .encodeSidesetOpt4 n _ => decide (n.toNat ≤ 12)
  | .encodeArgsJmp _ _ | .encodeArgsWait _ _ | .encodeArgsIn _ _ | .encodeArgsOut _ _ | .encodeArgsPush _ _
  | .encodeArgsPull _ _ | .encodeArgsMov _ _ | .encodeArgsIrq _ _ | .encodeArgsSet _ _
  | .encodeArgsWithOperandJmp _ _ | .encodeArgsWithOperandWait _ _ | .encodeArgsWithOperandIn _ _
  | .encodeArgsWithOperandOut _ _ | .encodeArgsWithOperandPush _ _ | .encodeArgsWithOperandPull _ _
  | .encodeArgsWithOperandMov _ _ | .encodeArgsWithOperandIrq _ _ | .encodeArgsWithOperandSet _ _
  | .encodeJmp _ | .encodeJmpNotX _ | .encodeJmpXDec _ | .encodeJmpNotY _ | .encodeJmpYDec _
  | .encodeJmpXNeY _ | .encodeJmpPin _ | .encodeJmpNotOsre _ | .encodeWaitGpio _ _ | .encodeWaitPin _ _
  | .encodeWaitIrq _ _ _ | .encodeIn _ _ | .encodeOut _ _ | .encodePush _ _ | .encodePull _ _
  | .encodeMov _ _ | .encodeMovNot _ _ | .encodeMovReverse _ _ | .encodeNop | .encodeIrqSet _ _
  | .encodeIrqWait _ _ | .encodeIrqClear _ _ | .encodeSet _ _ | .encodeDelay _ | .encodeSideset1 _
  | .encodeSideset2 _ | .encodeSideset3 _ | .encodeSideset4 _ | .encodeSidesetOpt1 _ | .encodeSidesetOpt2 _
  | .encodeSidesetOpt3 _ => true

/-! ## What an invocation leaves -/

/-- `s` after the word `w`: the output ports hold it, everything else is as before. -/
def afterWord (s : State) (w : Word) : State :=
  { s with outputs := some { word := some w, abort := false, cause := 0 } }

/-- `s` with other strap settings (10 R16), its outputs following them. -/
def withStraps (s : State) (m e d : Bool) : State := s.strap m e d

/-- The output ports hold what the combinational function gives for the inputs (10 R26): the word, or `abort`
with its cause, or nothing where the inputs have no outcome. A request whose result is a free value has no such
function (10 R27). -/
def Settled (s : State) : Prop :=
  (∀ i, decode s.inputs = .ok i → specified i = true) → s.outputs = portView (step s)

/-! ## Operations and ports (10 R21, R22) -/

/-- The operation's number in 10 R21. -/
def operationNumber : Instr → Nat
  | .encodeArgsJmp _ _ => 0
  | .encodeArgsWait _ _ => 0
  | .encodeArgsIn _ _ => 0
  | .encodeArgsOut _ _ => 0
  | .encodeArgsPush _ _ => 0
  | .encodeArgsPull _ _ => 0
  | .encodeArgsMov _ _ => 0
  | .encodeArgsIrq _ _ => 0
  | .encodeArgsSet _ _ => 0
  | .encodeArgsWithOperandJmp _ _ => 1
  | .encodeArgsWithOperandWait _ _ => 1
  | .encodeArgsWithOperandIn _ _ => 1
  | .encodeArgsWithOperandOut _ _ => 1
  | .encodeArgsWithOperandPush _ _ => 1
  | .encodeArgsWithOperandPull _ _ => 1
  | .encodeArgsWithOperandMov _ _ => 1
  | .encodeArgsWithOperandIrq _ _ => 1
  | .encodeArgsWithOperandSet _ _ => 1
  | .encodeJmp _ => 2
  | .encodeJmpNotX _ => 3
  | .encodeJmpXDec _ => 4
  | .encodeJmpNotY _ => 5
  | .encodeJmpYDec _ => 6
  | .encodeJmpXNeY _ => 7
  | .encodeJmpPin _ => 8
  | .encodeJmpNotOsre _ => 9
  | .encodeWaitGpio _ _ => 10
  | .encodeWaitPin _ _ => 11
  | .encodeWaitIrq _ _ _ => 12
  | .encodeIn _ _ => 13
  | .encodeOut _ _ => 14
  | .encodePush _ _ => 15
  | .encodePull _ _ => 16
  | .encodeMov _ _ => 17
  | .encodeMovNot _ _ => 18
  | .encodeMovReverse _ _ => 19
  | .encodeNop => 20
  | .encodeIrqSet _ _ => 21
  | .encodeIrqWait _ _ => 22
  | .encodeIrqClear _ _ => 23
  | .encodeSet _ _ => 24
  | .encodeDelay _ => 25
  | .encodeSideset1 _ => 26
  | .encodeSideset2 _ => 26
  | .encodeSideset3 _ => 26
  | .encodeSideset4 _ => 26
  | .encodeSideset5 _ _ => 26
  | .encodeSidesetOpt1 _ => 27
  | .encodeSidesetOpt2 _ => 27
  | .encodeSidesetOpt3 _ => 27
  | .encodeSidesetOpt4 _ _ => 27

/-- The class whose tag an instruction encoder (operations 0 to 24) packs; none for a field encoder. -/
def instrClass : Instr → Option OpClass
  | .encodeArgsJmp _ _ => some .jmp
  | .encodeArgsWait _ _ => some .wait
  | .encodeArgsIn _ _ => some .in_
  | .encodeArgsOut _ _ => some .out
  | .encodeArgsPush _ _ => some .push
  | .encodeArgsPull _ _ => some .pull
  | .encodeArgsMov _ _ => some .mov
  | .encodeArgsIrq _ _ => some .irq
  | .encodeArgsSet _ _ => some .set
  | .encodeArgsWithOperandJmp _ _ => some .jmp
  | .encodeArgsWithOperandWait _ _ => some .wait
  | .encodeArgsWithOperandIn _ _ => some .in_
  | .encodeArgsWithOperandOut _ _ => some .out
  | .encodeArgsWithOperandPush _ _ => some .push
  | .encodeArgsWithOperandPull _ _ => some .pull
  | .encodeArgsWithOperandMov _ _ => some .mov
  | .encodeArgsWithOperandIrq _ _ => some .irq
  | .encodeArgsWithOperandSet _ _ => some .set
  | .encodeJmp _ => some .jmp
  | .encodeJmpNotX _ => some .jmp
  | .encodeJmpXDec _ => some .jmp
  | .encodeJmpNotY _ => some .jmp
  | .encodeJmpYDec _ => some .jmp
  | .encodeJmpXNeY _ => some .jmp
  | .encodeJmpPin _ => some .jmp
  | .encodeJmpNotOsre _ => some .jmp
  | .encodeWaitGpio _ _ => some .wait
  | .encodeWaitPin _ _ => some .wait
  | .encodeWaitIrq _ _ _ => some .wait
  | .encodeIn _ _ => some .in_
  | .encodeOut _ _ => some .out
  | .encodePush _ _ => some .push
  | .encodePull _ _ => some .pull
  | .encodeMov _ _ => some .mov
  | .encodeMovNot _ _ => some .mov
  | .encodeMovReverse _ _ => some .mov
  | .encodeNop => some .mov
  | .encodeIrqSet _ _ => some .irq
  | .encodeIrqWait _ _ => some .irq
  | .encodeIrqClear _ _ => some .irq
  | .encodeSet _ _ => some .set
  | .encodeDelay _ => none
  | .encodeSideset1 _ => none
  | .encodeSideset2 _ => none
  | .encodeSideset3 _ => none
  | .encodeSideset4 _ => none
  | .encodeSideset5 _ _ => none
  | .encodeSidesetOpt1 _ => none
  | .encodeSidesetOpt2 _ => none
  | .encodeSidesetOpt3 _ => none
  | .encodeSidesetOpt4 _ _ => none

/-- An argument port (10 R22). -/
inductive Port where
  | cls | opdA | opdB | numA | numB | flagA | flagB
  deriving DecidableEq, Repr

/-- The ports an operation names, by its number (10 R21, R22). -/
def namedPorts (op : Nat) : List Port :=
  match op with
  | 0 => [.cls, .numA, .numB]
  | 1 => [.cls, .opdA, .numB]
  | 10 => [.flagA, .numA]
  | 11 => [.flagA, .numA]
  | 12 => [.flagA, .flagB, .numA]
  | 13 => [.opdA, .numB]
  | 14 => [.opdA, .numB]
  | 15 => [.flagA, .flagB]
  | 16 => [.flagA, .flagB]
  | 17 => [.opdA, .opdB]
  | 18 => [.opdA, .opdB]
  | 19 => [.opdA, .opdB]
  | 20 => []
  | 21 => [.flagA, .numA]
  | 22 => [.flagA, .numA]
  | 23 => [.flagA, .numA]
  | 24 => [.opdA, .numB]
  | 26 => [.numA, .numB]
  | 27 => [.numA, .numB]
  | _ => [.numA]

/-- Two requests agree on a port. -/
def agreeOn (r r' : Request) : Port → Prop
  | .cls => r.cls = r'.cls
  | .opdA => r.opdA = r'.opdA
  | .opdB => r.opdB = r'.opdB
  | .numA => r.numA = r'.numA
  | .numB => r.numB = r'.numB
  | .flagA => r.flagA = r'.flagA
  | .flagB => r.flagB = r'.flagB

/-! ## Fields and shapes of a word (30 R37, R49) -/

/-- bits[15:13] -/
def majorBits (w : Word) : BitVec 3 := w.extractLsb' 13 3
/-- bits[12:8] -/
def fieldBits (w : Word) : BitVec 5 := w.extractLsb' 8 5
/-- bits[7:5] -/
def selectorBits (w : Word) : BitVec 3 := w.extractLsb' 5 3
/-- bits[4:0] -/
def argumentBits (w : Word) : BitVec 5 := w.extractLsb' 0 5

/-- The shapes no per-operation encoder emits on in-range inputs (30 R49, first list). -/
def reservedShape (w : Word) : Bool :=
  let sel := (selectorBits w).toNat
  let arg := argumentBits w
  fieldBits w != 0 ||
  match (majorBits w).toNat with
  | 1 => sel % 4 == 3 || (sel % 4 == 2 && arg.getLsbD 3)
  | 4 => arg != 0
  | 5 => arg.extractLsb' 3 2 == 3
  | 6 => arg.getLsbD 3 || decide (3 ≤ sel)
  | _ => false

/-- The shapes no per-operation encoder emits in the validated configuration besides (30 R49, second list). -/
def reservedWhenValidated (w : Word) : Bool :=
  let sel := (selectorBits w).toNat
  match (majorBits w).toNat with
  | 2 => sel == 4 || sel == 5
  | 3 => sel == 7
  | 5 => sel == 3 || sel == 4 || (argumentBits w).extractLsb' 0 3 == 4
  | 7 => sel == 3 || sel == 5 || sel == 6 || sel == 7
  | _ => false

end Sys2Proof.Machine
end

