-- ==== Sys2Proof/Certificates/Slice0/Obligations.lean ====
section
/-! DEFINITION. The statements for the provers. A statement that says "the machine answers a next state" says
which one: `afterWord s w` is `s` with the output ports at the word `w` and everything else unchanged
(straps, input ports, draw count), so each such equation is result, frame and completion in one. Where a
statement's docstring says GK, a constant in it is one the spec marks as general knowledge (entry 9). -/

open Sys2Proof Sys2Proof.Machine

/-! ## The step and the request -/

/-- One step is one invocation of the instruction that the input ports name (10 R21, R22); the step adds nothing
around it. That framing is the model's, entry 1. -/
def Obligations.StepRunsTheRequestOnThePorts : Prop :=
  ∀ (s : State) (i : Instr), decode s.inputs = .ok i → i.wellFormed = true → step s = exec i s

/-- A code outside an enumeration on a port the operation names is refused by name (10 R20, 93 U7), and no
other request is. Which of two bad codes is named is the model's choice, entry 12. -/
def Obligations.CodesOutsideTheEnumerationsAreRefused : Prop :=
  ∀ s : State,
    let op := s.inputs.op.toNat
    let badClass := op ≤ 1 ∧ 8 < s.inputs.cls.toNat
    let badA := (op = 1 ∨ op = 13 ∨ op = 14 ∨ (17 ≤ op ∧ op ≤ 19) ∨ op = 24) ∧ 8 < s.inputs.opdA.toNat
    let badB := (17 ≤ op ∧ op ≤ 19) ∧ 8 < s.inputs.opdB.toNat
    (27 < op → step s = .refused (.noSuchRequest (.opOutside s.inputs.op))) ∧
    (badClass → step s = .refused (.noSuchRequest (.classOutside s.inputs.cls))) ∧
    (¬ badClass → badA → step s = .refused (.noSuchRequest (.operandAOutside s.inputs.opdA))) ∧
    (¬ badA → badB → step s = .refused (.noSuchRequest (.operandBOutside s.inputs.opdB))) ∧
    (op ≤ 27 → ¬ badClass → ¬ badA → ¬ badB → ∃ i, decode s.inputs = .ok i)

/-- DECODE AND ENCODE AGREE: putting any well-formed instruction on the ports and reading the ports gives it
back, every argument at every value (10 R21, R22; the port codes are the model's, entry 7). -/
def Obligations.EveryInstructionReadsBackFromThePorts : Prop :=
  ∀ i : Instr, i.wellFormed = true → decode (encode i) = .ok i

/-- What the ports are read as is well formed, names the operation of the `op` port, and keeps every port that
operation names (10 R21, R22). -/
def Obligations.ReadingTheRequestLosesNoNamedPort : Prop :=
  ∀ (r : Request) (i : Instr), decode r = .ok i →
    i.wellFormed = true ∧ operationNumber i = r.op.toNat ∧ (encode i).op = r.op ∧
    ∀ p ∈ namedPorts r.op.toNat, agreeOn (encode i) r p

/-- An input an operation does not name is ignored by it (10 R22). -/
def Obligations.UnnamedInputsAreIgnored : Prop :=
  ∀ (s : State) (r r' : Request), r.op = r'.op → (∀ p ∈ namedPorts r.op.toNat, agreeOn r r' p) →
    decode r = decode r' ∧ portView (step (s.present r)) = portView (step (s.present r'))

/-! ## The validation gate and the abort -/

/-- The gate (10 R17): its formula, its truth table, and that every operation consults this one bit: with the
straps set to anything, each operation has the outcome it has when the straps give the gate's value alone. -/
def Obligations.TheGateFollowsItsTableAndAloneIsConsulted : Prop :=
  ∀ s : State,
    s.validate = ((s.valModule || s.valEnableAll) && !s.valDisableAll) ∧
    ((withStraps s false false false).validate = false ∧ (withStraps s true false false).validate = true ∧
      (withStraps s false true false).validate = true ∧ (withStraps s true true false).validate = true ∧
      (withStraps s false false true).validate = false ∧ (withStraps s true false true).validate = false ∧
      (withStraps s false true true).validate = false ∧ (withStraps s true true true).validate = false) ∧
    ∀ i m e d, portView (exec i (withStraps s m e d)) =
      portView (exec i (withStraps s ((m || e) && !d) false false))

/-- With VALIDATE 0 no operation aborts: every instruction, whatever its arguments, answers a next state, and
its word is all it changes but for the draw count (10 R18, 60 R112). The draw count is the model's own,
entry 10. -/
def Obligations.UnvalidatedNeverAborts : Prop :=
  ∀ (i : Instr) (s : State), s.validate = false →
    ∃ w, exec i s = .next { afterWord s w with draws := if specified i then s.draws else s.draws + 1 }

/-- A request that violates no precondition yields the same word in every configuration of the straps, and
yields one in each (10 R18, 70 R132). -/
def Obligations.LegalRequestsYieldOneWordInEveryConfiguration : Prop :=
  ∀ (i : Instr) (s : State), legal i = true →
    ∃ w, ∀ m e d, exec i (withStraps s m e d) = .next (afterWord (withStraps s m e d) w)

/-- With VALIDATE 1 the first check that fails, in the order of the table of 60 R115, decides the cause, and a
request all of whose checks hold yields a word. (Two of the orders are the spec's own decision D11.) -/
def Obligations.FirstFailedCheckDecidesTheCause : Prop :=
  ∀ (i : Instr) (s : State), s.validate = true →
    (∀ c, firstFailure i = some c → exec i s = .fault (.abort c)) ∧
    (firstFailure i = none → ∃ w, exec i s = .next (afterWord s w))

/-- The abort (60 R109): it arises only when VALIDATE is 1 and only from a check of the operation that fails,
whose cause it carries; when VALIDATE is 1 any failed check aborts; and no operation ends in anything but a word
or an abort. (Which of several failed checks decides the cause is another statement.) -/
def Obligations.AbortArisesExactlyFromAFailedCheckWhenValidated : Prop :=
  ∀ (i : Instr) (s : State),
    (∀ f, exec i s = .fault f → s.validate = true ∧ ∃ c, (false, c) ∈ checks i ∧ f = .abort c) ∧
    (s.validate = true → (∃ c, (false, c) ∈ checks i) → ∃ c, exec i s = .fault (.abort c)) ∧
    (∀ r, exec i s ≠ .refused r)

/-- The codes of the causes: 1 to 14 in the table's order, so no cause reads as "no abort" (0) or as the
unused 15, and two causes never share a code (60 R110; the codes are the spec's decision D13). -/
def Obligations.CauseCodesAreOneToFourteen : Prop :=
  ([Cause.aSelRange, .aArgRangeInout, .aArgRange, .aIrqRange, .aInSrc, .aOutDest, .aSetDest, .aMovDest,
    .aMovSrc, .aDelayRange, .aSidesetCount, .aSidesetValue, .aSidesetOptCount, .aSidesetOptValue].map
      fun c => (causeCode c).toNat) = [1, 2, 3, 4, 5, 6, 7, 8, 9, 10, 11, 12, 13, 14] ∧
  (∀ c, causeCode c ≠ 0 ∧ causeCode c ≠ 15) ∧
  (∀ c c', causeCode c = causeCode c' → c = c')

/-- The output ports after an invocation (10 R23): `abort` is 1 exactly when the outcome is an abort, and then
`cause` is its code and `word` is not to be read; else `cause` is 0 and `word` is the word. With VALIDATE 0
`abort` is 0. -/
def Obligations.OutputPortsShowTheOutcome : Prop :=
  ∀ (i : Instr) (s : State),
    (∀ t, exec i s = .next t → portView (exec i s) = t.outputs ∧
      ∃ w, t.outputs = some { word := some w, abort := false, cause := 0 }) ∧
    (∀ c, exec i s = .fault (.abort c) →
      portView (exec i s) = some { word := none, abort := true, cause := causeCode c }) ∧
    (∃ p, portView (exec i s) = some p ∧ (p.abort = true ↔ ∃ c, exec i s = .fault (.abort c)) ∧
      (s.validate = false → p.abort = false))

/-! ## Purity -/

/-- The outcome is a function of the operation, its arguments and VALIDATE: two states that agree on VALIDATE
give the same outcome, whatever their ports and their history, for every request whose result the spec
specifies; for the others the draw count, the model's own (entry 10), must agree too (10 R24, R27). -/
def Obligations.OutcomeDependsOnlyOnTheRequestAndTheGate : Prop :=
  ∀ (i : Instr) (s s' : State), s.validate = s'.validate → (specified i = true ∨ s.draws = s'.draws) →
    portView (exec i s) = portView (exec i s')

/-- No ordering dependency between calls: an earlier invocation does not change the outcome of a later one
(20 R34, 10 R24); draws of free values apart. -/
def Obligations.EarlierInvocationsDoNotInfluenceLaterOnes : Prop :=
  ∀ (s t : State) (r : Request), step s = .next t →
    (∀ i, decode r = .ok i → specified i = true) →
    portView (step (t.present r)) = portView (step (s.present r))

/-- Every operation is idempotent: repeating the invocation yields the same outcome and changes nothing
(20 R33); free values apart. -/
def Obligations.RepeatingAnInvocationChangesNothing : Prop :=
  ∀ s t : State, step s = .next t → (∀ i, decode s.inputs = .ok i → specified i = true) → step t = .next t

/-- THE FRAME OF EVERY INSTRUCTION: no operation changes a strap or an input port, and the draw count moves
only where the result is a free value (10 R16, R20; entry 10). -/
def Obligations.NoOperationChangesStrapsOrInputs : Prop :=
  ∀ (i : Instr) (s t : State), exec i s = .next t →
    t.valModule = s.valModule ∧ t.valEnableAll = s.valEnableAll ∧ t.valDisableAll = s.valDisableAll ∧
    t.inputs = s.inputs ∧ t.draws = (if specified i then s.draws else s.draws + 1)

/-- AN INVARIANT OF EVERY STEP: whatever the state before, after a step the output ports hold what the
combinational function gives for the inputs, a word with `abort` and `cause` 0 (10 R26). -/
def Obligations.EveryStepLeavesTheOutputsSettled : Prop :=
  ∀ s t : State, step s = .next t →
    Settled t ∧ ∃ w, t.outputs = some { word := some w, abort := false, cause := 0 }

/-- The outputs are settled at reset: the reset word 0x0000 is the word of the reset inputs, in every strap
setting. The reset inputs are the model's choice (entries 2 and 3); that the outputs then follow them is
10 R26. -/
def Obligations.ResetOutputsAreSettled : Prop :=
  Settled State.reset ∧ step State.reset = .next State.reset ∧
  State.reset.outputs = some { word := some 0x0000, abort := false, cause := 0 } ∧
  ∀ m e d, Settled { State.reset with valModule := m, valEnableAll := e, valDisableAll := d } ∧
    withStraps State.reset m e d = { State.reset with valModule := m, valEnableAll := e, valDisableAll := d }

/-- THE OUTPUTS FOLLOW THE INPUTS AT EVERY INSTANT, not at a step (10 R26): as soon as the caller sets the input
ports, or the integration the straps, the output ports hold what the invocation then standing gives: the word,
or `abort` with its cause while an aborting request stands, or no outcome for a code outside the enumerations
(entry 12); a free value shown is that of the coming draw (entry 10). Setting them changes nothing else.
Presenting a table word does so too (entry 4). -/
def Obligations.OutputsFollowTheInputsAtEveryInstant : Prop :=
  (∀ (s : State) (r : Request),
    s.present r = { s with inputs := r, outputs := portView (step (s.present r)) } ∧
    Settled (s.present r) ∧
    (∀ i, decode r = .ok i → (s.present r).outputs = portView (exec i s)) ∧
    (∀ why, decode r = .error why → (s.present r).outputs = none)) ∧
  (∀ (s : State) (m e d : Bool),
    withStraps s m e d = { s with
      valModule := m, valEnableAll := e, valDisableAll := d, outputs := portView (step (withStraps s m e d)) } ∧
    Settled (withStraps s m e d)) ∧
  (∀ (s : State) (nbits w : Nat),
    (s.withFetchWord nbits w).outputs = portView (step (s.withFetchWord nbits w)) ∧
    Settled (s.withFetchWord nbits w))

/-! ## The opcode map and the shapes of words -/

/-- THE PACKER IMPLEMENTS THE OPCODE MAP: on in-range inputs every instruction answers a next state whose word
is the bit pattern of its row of 30 R46, in both configurations (a forbidden operand aborts when validated
and is packed when not). GK. -/
def Obligations.EveryInstructionYieldsItsRowOfTheOpcodeMap : Prop :=
  ∀ (i : Instr) (s : State), i.wellFormed = true → inRange i = true →
    (s.validate = false ∨ legal i = true) → exec i s = .next (afterWord s (opcodeWord i))

/-- Base words: an instruction encoder's word has bits[12:8] zero and the class bits of its class, on in-range
inputs, in both configurations; and that can fail out of range, where the unmasked selector of `encode_args`
reaches the field bits when VALIDATE is 0 (30 R45). -/
def Obligations.BaseWordsHaveZeroFieldBits : Prop :=
  (∀ (i : Instr) (s : State) (w : Word) (cls : OpClass), instrClass i = some cls → inRange i = true →
    exec i s = .next (afterWord s w) → fieldBits w = 0 ∧ majorBits w = majorBits (K.tag cls)) ∧
  (∀ (s : State) (cls : OpClass), s.validate = false →
    ∃ w, exec (encodeArgsInstr cls 8 0) s = .next (afterWord s w) ∧ fieldBits w ≠ 0)

/-- Field bits: a field encoder's word is zero outside bits[12:8], on in-range inputs (49 R99). -/
def Obligations.FieldWordsAreZeroOutsideTheField : Prop :=
  ∀ (i : Instr) (s : State) (w : Word), instrClass i = none → i.wellFormed = true → inRange i = true →
    exec i s = .next (afterWord s w) → majorBits w = 0 ∧ selectorBits w = 0 ∧ argumentBits w = 0

/-- The per-operation encoders (operations 2 to 24) never emit a reserved shape on in-range inputs, nor the
further shapes in the validated configuration (30 R49). GK. -/
def Obligations.WrappersNeverEmitReservedShapes : Prop :=
  ∀ (i : Instr) (s : State) (w : Word), 2 ≤ operationNumber i → operationNumber i ≤ 24 → inRange i = true →
    exec i s = .next (afterWord s w) →
    reservedShape w = false ∧ (s.validate = true → reservedWhenValidated w = false)

/-- The raw core packer can emit the reserved shapes (30 R50): every word with zero field bits, reserved or
not, is the word of some `encode_args` request, in both configurations; with the rule's two examples. GK. -/
def Obligations.RawPackerEmitsEveryBaseWord : Prop :=
  (∀ w : Word, fieldBits w = 0 → ∃ cls k g, ∀ s, exec (encodeArgsInstr cls k g) s = .next (afterWord s w)) ∧
  (∀ s : State,
    exec (.encodeArgsMov 1 0x1A) s = .next (afterWord s 0xA03A) ∧
    exec (.encodeArgsIrq 3 0) s = .next (afterWord s 0xC060)) ∧
  reservedShape 0xA03A = true ∧ reservedShape 0xC060 = true

/-- The nine class tags (30 R39): eight major values, all used, PUSH and PULL sharing one and differing in
bit 7 only; field bits zero; below them nothing set but PULL's one bit. GK. -/
def Obligations.ClassTagsAndMajorValues : Prop :=
  ([OpClass.jmp, .wait, .in_, .out, .push, .pull, .mov, .irq, .set].map K.tag) =
    [0x0000, 0x2000, 0x4000, 0x6000, 0x8000, 0x8080, 0xA000, 0xC000, 0xE000] ∧
  (∀ m : BitVec 3, ∃ c, majorBits (K.tag c) = m) ∧
  (∀ c c', majorBits (K.tag c) = majorBits (K.tag c') →
    c = c' ∨ (c = .push ∧ c' = .pull) ∨ (c = .pull ∧ c' = .push)) ∧
  K.tag .push ^^^ K.tag .pull = 0x0080 ∧
  (∀ c, fieldBits (K.tag c) = 0 ∧
    (K.tag c).extractLsb' 0 8 = if c = .pull then 0x80 else 0)

/-! ## The operand model -/

/-- The nine operands, their selectors and the columns of the legality table (40 R56, R58). GK. -/
def Obligations.OperandSelectorsAndLegalityColumns : Prop :=
  let operands := [Operand.pins, .x, .y, .null, .pindirs, .status, .pc, .isr, .osr]
  (∀ o : Operand, o ∈ operands) ∧
  operands.map K.sel = [0, 1, 2, 3, 4, 5, 5, 6, 7] ∧
  operands.filter (fun o => K.forbid o .inSrc) = [.pindirs, .status, .pc] ∧
  operands.filter (fun o => K.forbid o .outDest) = [.status, .osr] ∧
  operands.filter (fun o => K.forbid o .setDest) = [.null, .status, .pc, .isr, .osr] ∧
  operands.filter (fun o => K.forbid o .movSrc) = [.pindirs, .pc] ∧
  operands.filter (fun o => K.forbid o .movDest) = [.null, .pindirs, .status]

/-- `status` and `pc` (40 R61): wherever both are packed the words are equal, with VALIDATE 0 no operation
tells them apart, and in no use-class are both allowed. GK. -/
def Obligations.StatusAndPcAreToldApartOnlyByLegality : Prop :=
  (∀ (s : State) (cls : OpClass) (v : WNum),
    exec (encodeArgsWithOperandInstr cls .status v) s = exec (encodeArgsWithOperandInstr cls .pc v) s) ∧
  (∀ (s : State) (v : WNum) (op : MovOp) (o : Operand), s.validate = false →
    exec (.encodeIn .status v) s = exec (.encodeIn .pc v) s ∧
    exec (.encodeOut .status v) s = exec (.encodeOut .pc v) s ∧
    exec (.encodeSet .status v) s = exec (.encodeSet .pc v) s ∧
    exec (movInstr op .status o) s = exec (movInstr op .pc o) s ∧
    exec (movInstr op o .status) s = exec (movInstr op o .pc) s) ∧
  (∀ u : UseClass, K.forbid .status u = true ∨ K.forbid .pc u = true)

/-- The repository's flagged integers (40 R62): `value & 7` is the selector, a flag is set exactly when
validation is on and the use forbidden, and the nine integers of each build. GK. -/
def Obligations.FlaggedIntegersCarrySelectorAndLegality : Prop :=
  let operands := [Operand.pins, .x, .y, .null, .pindirs, .status, .pc, .isr, .osr]
  (∀ (v : Bool) (o : Operand), flaggedInteger v o &&& 7 = (K.sel o).toNat) ∧
  (∀ (v : Bool) (o : Operand) (u : UseClass),
    flaggedInteger v o &&& K.forbidFlag u ≠ 0 ↔ v = true ∧ K.forbid o u = true) ∧
  operands.map (flaggedInteger true) = [0x00, 0x01, 0x02, 0xA3, 0xCC, 0xBD, 0x6D, 0x26, 0x37] ∧
  operands.map (flaggedInteger false) = [0, 1, 2, 3, 4, 5, 5, 6, 7]

/-! ## The core packer -/

/-- `encode_args` (41 R63, R64): the word, the three aborts and their order, for each of the nine classes; and
the word's top bits do not depend on selector and argument. -/
def Obligations.EncodeArgsPacksTagSelectorArgument : Prop :=
  ∀ (cls : OpClass) (k g : WNum) (s : State),
    let inOut := cls = .in_ ∨ cls = .out
    let argOk := (inOut → 1 ≤ g.toNat ∧ g.toNat ≤ 32) ∧ (¬ inOut → g.toNat ≤ 31)
    let w : Word := BitVec.ofNat 16 ((K.tag cls).toNat ||| (k.toNat <<< 5) ||| (g.toNat &&& 0x1f))
    (s.validate = false ∨ (k.toNat ≤ 7 ∧ argOk) →
      exec (encodeArgsInstr cls k g) s = .next (afterWord s w)) ∧
    (s.validate = true → 7 < k.toNat → exec (encodeArgsInstr cls k g) s = .fault (.abort .aSelRange)) ∧
    (s.validate = true → k.toNat ≤ 7 → inOut → ¬ argOk →
      exec (encodeArgsInstr cls k g) s = .fault (.abort .aArgRangeInout)) ∧
    (s.validate = true → k.toNat ≤ 7 → ¬ inOut → ¬ argOk →
      exec (encodeArgsInstr cls k g) s = .fault (.abort .aArgRange)) ∧
    (k.toNat ≤ 7 → argOk → majorBits w = majorBits (K.tag cls) ∧ fieldBits w = 0 ∧
      argumentBits w = BitVec.ofNat 5 g.toNat)

/-- Laws of the core (41 R68): the four fields of the word of `encode_args` on in-range inputs, in both
configurations, with PULL's selector read as `s | 4`; and the IN wraparound: 32 packs as the formula packs
0, and 0 aborts when validated. -/
def Obligations.CoreWordFields : Prop :=
  (∀ (cls : OpClass) (k g : WNum) (s : State), legal (encodeArgsInstr cls k g) = true →
    ∃ w, exec (encodeArgsInstr cls k g) s = .next (afterWord s w) ∧
      majorBits w = majorBits (K.tag cls) ∧ fieldBits w = 0 ∧
      (argumentBits w).toNat = g.toNat % 32 ∧
      (cls ≠ .pull → (selectorBits w).toNat = k.toNat) ∧
      (cls = .pull → (selectorBits w).toNat = k.toNat ||| 4)) ∧
  (∀ (k : WNum) (s : State), k.toNat ≤ 7 →
    exec (.encodeArgsIn k 32) s = .next (afterWord s (BitVec.ofNat 16 (0x4000 ||| (k.toNat <<< 5)))) ∧
    (s.validate = true → exec (.encodeArgsIn k 0) s = .fault (.abort .aArgRangeInout)))

/-- `encode_args` with VALIDATE 0 on any inputs (41 R65): the argument is reduced to its low five bits, the
selector is not masked, and only its low eleven bits reach the word; with the five examples. -/
def Obligations.UnvalidatedCorePacksAnyInput : Prop :=
  ∀ s : State, s.validate = false →
    (∀ (cls : OpClass) (k g : WNum), exec (encodeArgsInstr cls k g) s = .next (afterWord s
        (K.tag cls ||| (k.setWidth 16 <<< 5) ||| (g.setWidth 5).setWidth 16))) ∧
    (∀ (cls : OpClass) (k k' g g' : WNum), k.setWidth 11 = k'.setWidth 11 → g.setWidth 5 = g'.setWidth 5 →
      exec (encodeArgsInstr cls k g) s = exec (encodeArgsInstr cls k' g') s) ∧
    exec (.encodeArgsJmp 8 0) s = .next (afterWord s 0x0100) ∧
    exec (.encodeArgsSet 256 0) s = .next (afterWord s 0xE000) ∧
    exec (.encodeArgsSet 2048 0) s = .next (afterWord s 0xE000) ∧
    exec (.encodeArgsJmp 0 32) s = .next (afterWord s 0x0000) ∧
    exec (.encodeArgsOut 7 40) s = .next (afterWord s 0x60E8)

/-- `encode_args_with_operand` (41 R66) is `encode_args` at the operand's selector, for every operand, legal or
not: the word, and the aborts of its value. -/
def Obligations.WithOperandMasksAndDelegates : Prop :=
  ∀ (cls : OpClass) (o : Operand) (v : WNum) (s : State),
    let inOut := cls = .in_ ∨ cls = .out
    let valueOk := (inOut → 1 ≤ v.toNat ∧ v.toNat ≤ 32) ∧ (¬ inOut → v.toNat ≤ 31)
    exec (encodeArgsWithOperandInstr cls o v) s =
      exec (encodeArgsInstr cls ((K.sel o).setWidth 32) v) s ∧
    (s.validate = false ∨ valueOk → exec (encodeArgsWithOperandInstr cls o v) s = .next (afterWord s
      (BitVec.ofNat 16 ((K.tag cls).toNat ||| ((K.sel o).toNat <<< 5) ||| (v.toNat &&& 0x1f))))) ∧
    (s.validate = true → inOut → ¬ valueOk →
      exec (encodeArgsWithOperandInstr cls o v) s = .fault (.abort .aArgRangeInout)) ∧
    (s.validate = true → ¬ inOut → ¬ valueOk →
      exec (encodeArgsWithOperandInstr cls o v) s = .fault (.abort .aArgRange))

/-- The IRQ-number helper (41 R67): it aborts on an index above 7 when validated; a legal index gives a number
of 0 to 23 with bit 4 the relative flag, bit 3 zero and the index below; unvalidated it does not mask. -/
def Obligations.IrqNumberIsFlagAndIndex : Prop :=
  ∀ (relative : Bool) (irq : Nat),
    (7 < irq → irqNum true relative irq = .error .aIrqRange) ∧
    irqNum false relative irq = .ok ((if relative then 0x10 else 0) ||| irq) ∧
    (irq ≤ 7 → ∀ v, ∃ n, irqNum v relative irq = .ok n ∧ n ≤ 23 ∧ n.testBit 4 = relative ∧
      n.testBit 3 = false ∧ n % 8 = irq)

/-! ## The wrappers -/

/-- The eight JMP encoders (42 R69 to R77): `cond << 5 | addr` and the abort of an address above 31; with
VALIDATE 0 the low five bits of any address. GK (names). -/
def Obligations.JmpEncodersPackConditionAndAddress : Prop :=
  ∀ (addr : WNum) (s : State),
    ∀ p ∈ [(Instr.encodeJmp addr, 0), (Instr.encodeJmpNotX addr, 1), (Instr.encodeJmpXDec addr, 2),
        (Instr.encodeJmpNotY addr, 3), (Instr.encodeJmpYDec addr, 4), (Instr.encodeJmpXNeY addr, 5),
        (Instr.encodeJmpPin addr, 6), (Instr.encodeJmpNotOsre addr, 7)],
      (s.validate = false ∨ addr.toNat ≤ 31 →
        exec p.1 s = .next (afterWord s (BitVec.ofNat 16 ((p.2 <<< 5) ||| (addr.toNat % 32))))) ∧
      (s.validate = true → 31 < addr.toNat → exec p.1 s = .fault (.abort .aArgRange))

/-- `encode_wait_gpio` and `encode_wait_pin` (43 R79, R80). GK (source code 1). -/
def Obligations.WaitGpioAndPinPackPolarityAndIndex : Prop :=
  ∀ (polarity : Bool) (index : WNum) (s : State),
    ∀ p ∈ [(Instr.encodeWaitGpio polarity index, 0), (Instr.encodeWaitPin polarity index, 1)],
      (s.validate = false ∨ index.toNat ≤ 31 → exec p.1 s = .next (afterWord s
        (BitVec.ofNat 16 (0x2000 ||| ((p.2 ||| if polarity then 4 else 0) <<< 5) ||| (index.toNat % 32))))) ∧
      (s.validate = true → 31 < index.toNat → exec p.1 s = .fault (.abort .aArgRange))

/-- `encode_wait_irq` (43 R81): the composite IRQ number in the argument field, cut to five bits when
unvalidated; the abort comes from the helper. GK (source code 2). -/
def Obligations.WaitIrqPacksPolarityAndIrqNumber : Prop :=
  ∀ (polarity relative : Bool) (irq : WNum) (s : State),
    (s.validate = false ∨ irq.toNat ≤ 7 → exec (.encodeWaitIrq polarity relative irq) s = .next (afterWord s
      (BitVec.ofNat 16 (0x2000 ||| ((2 ||| if polarity then 4 else 0) <<< 5) |||
        (((if relative then 0x10 else 0) ||| irq.toNat) &&& 0x1f))))) ∧
    (s.validate = true → 7 < irq.toNat →
      exec (.encodeWaitIrq polarity relative irq) s = .fault (.abort .aIrqRange))

/-- `encode_in` (44 R83): source selector and count mod 32; a forbidden source aborts before a count of 0 or
above 32 does. GK. -/
def Obligations.InPacksSourceAndCount : Prop :=
  ∀ (src : Operand) (count : WNum) (s : State),
    (s.validate = false ∨ (src ∉ [Operand.pindirs, .status, .pc] ∧ 1 ≤ count.toNat ∧ count.toNat ≤ 32) →
      exec (.encodeIn src count) s = .next (afterWord s
        (BitVec.ofNat 16 (0x4000 ||| ((K.sel src).toNat <<< 5) ||| (count.toNat % 32))))) ∧
    (s.validate = true → src ∈ [Operand.pindirs, .status, .pc] →
      exec (.encodeIn src count) s = .fault (.abort .aInSrc)) ∧
    (s.validate = true → src ∉ [Operand.pindirs, .status, .pc] → count = 0 ∨ 32 < count.toNat →
      exec (.encodeIn src count) s = .fault (.abort .aArgRangeInout))

/-- `encode_out` (44 R84): destination selector and count mod 32; a forbidden destination aborts before a
count of 0 or above 32 does. GK. -/
def Obligations.OutPacksDestinationAndCount : Prop :=
  ∀ (dest : Operand) (count : WNum) (s : State),
    (s.validate = false ∨ (dest ∉ [Operand.status, .osr] ∧ 1 ≤ count.toNat ∧ count.toNat ≤ 32) →
      exec (.encodeOut dest count) s = .next (afterWord s
        (BitVec.ofNat 16 (0x6000 ||| ((K.sel dest).toNat <<< 5) ||| (count.toNat % 32))))) ∧
    (s.validate = true → dest ∈ [Operand.status, .osr] →
      exec (.encodeOut dest count) s = .fault (.abort .aOutDest)) ∧
    (s.validate = true → dest ∉ [Operand.status, .osr] → count = 0 ∨ 32 < count.toNat →
      exec (.encodeOut dest count) s = .fault (.abort .aArgRangeInout))

/-- The wraparound of IN and OUT (70 R133): 32 is accepted and yields the word that 0 yields unvalidated, 0 is
rejected when validated, and the count field is `count & 0x1f` for every count, with no special case. -/
def Obligations.InOutCountWrapsThirtyTwoToZero : Prop :=
  ∀ (o : Operand) (s u : State), s.validate = true → u.validate = false →
    (K.forbid o .inSrc = false →
      (∃ w, exec (.encodeIn o 32) s = .next (afterWord s w) ∧ argumentBits w = 0 ∧
        exec (.encodeIn o 0) u = .next (afterWord u w)) ∧
      exec (.encodeIn o 0) s = .fault (.abort .aArgRangeInout)) ∧
    (K.forbid o .outDest = false →
      (∃ w, exec (.encodeOut o 32) s = .next (afterWord s w) ∧ argumentBits w = 0 ∧
        exec (.encodeOut o 0) u = .next (afterWord u w)) ∧
      exec (.encodeOut o 0) s = .fault (.abort .aArgRangeInout)) ∧
    (∀ c : WNum, ∃ w w', exec (.encodeIn o c) u = .next (afterWord u w) ∧
      exec (.encodeOut o c) u = .next (afterWord u w') ∧
      (argumentBits w).toNat = c.toNat &&& 0x1f ∧ (argumentBits w').toNat = c.toNat &&& 0x1f)

/-- `encode_push` and `encode_pull` (45 R85 to R87): the table of the four input combinations, in both
configurations; they never abort. GK. -/
def Obligations.PushAndPullPackTheirFlags : Prop :=
  ∀ s : State,
    exec (.encodePush false false) s = .next (afterWord s 0x8000) ∧
    exec (.encodePush false true) s = .next (afterWord s 0x8020) ∧
    exec (.encodePush true false) s = .next (afterWord s 0x8040) ∧
    exec (.encodePush true true) s = .next (afterWord s 0x8060) ∧
    exec (.encodePull false false) s = .next (afterWord s 0x8080) ∧
    exec (.encodePull false true) s = .next (afterWord s 0x80A0) ∧
    exec (.encodePull true false) s = .next (afterWord s 0x80C0) ∧
    exec (.encodePull true true) s = .next (afterWord s 0x80E0)

/-- The three MOV encoders (46 R88 to R91): destination in the selector field, operation tag and source in the
argument field. A forbidden destination is reported before a forbidden source: that order is the spec's own
decision D11. GK. -/
def Obligations.MovEncodersPackDestinationTagSource : Prop :=
  ∀ (dest src : Operand) (s : State),
    ∀ p ∈ [(Instr.encodeMov dest src, 0), (Instr.encodeMovNot dest src, 1), (Instr.encodeMovReverse dest src, 2)],
      (s.validate = false ∨ (dest ∉ [Operand.null, .pindirs, .status] ∧ src ∉ [Operand.pindirs, .pc]) →
        exec p.1 s = .next (afterWord s
          (BitVec.ofNat 16 (0xA000 ||| ((K.sel dest).toNat <<< 5) ||| (p.2 <<< 3) ||| (K.sel src).toNat)))) ∧
      (s.validate = true → dest ∈ [Operand.null, .pindirs, .status] →
        exec p.1 s = .fault (.abort .aMovDest)) ∧
      (s.validate = true → dest ∉ [Operand.null, .pindirs, .status] → src ∈ [Operand.pindirs, .pc] →
        exec p.1 s = .fault (.abort .aMovSrc))

/-- `encode_nop()` is `encode_mov(y, y)`, in both configurations (46 R92). GK (the number). -/
def Obligations.NopIsMovOfYIntoY : Prop :=
  ∀ s : State, exec .encodeNop s = exec (.encodeMov .y .y) s ∧ exec .encodeNop s = .next (afterWord s 0xA042)

/-- The three IRQ encoders (47 R93 to R96): sub-opcode and composite IRQ number; the index is neither masked
by the helper nor kept beyond five bits when unvalidated. GK (sub-opcodes 1 and 2). -/
def Obligations.IrqEncodersPackSubOpcodeAndIrqNumber : Prop :=
  ∀ (relative : Bool) (irq : WNum) (s : State),
    ∀ p ∈ [(Instr.encodeIrqSet relative irq, 0), (Instr.encodeIrqWait relative irq, 1),
        (Instr.encodeIrqClear relative irq, 2)],
      (s.validate = false ∨ irq.toNat ≤ 7 → exec p.1 s = .next (afterWord s
        (BitVec.ofNat 16 (0xC000 ||| (p.2 <<< 5) |||
          (((if relative then 0x10 else 0) ||| irq.toNat) &&& 0x1f))))) ∧
      (s.validate = true → 7 < irq.toNat → exec p.1 s = .fault (.abort .aIrqRange))

/-- `encode_set` (48 R98): destination selector and value; a forbidden destination aborts before a value above
31 does. GK. -/
def Obligations.SetPacksDestinationAndValue : Prop :=
  ∀ (dest : Operand) (value : WNum) (s : State),
    (s.validate = false ∨ (dest ∈ [Operand.pins, .x, .y, .pindirs] ∧ value.toNat ≤ 31) →
      exec (.encodeSet dest value) s = .next (afterWord s
        (BitVec.ofNat 16 (0xE000 ||| ((K.sel dest).toNat <<< 5) ||| (value.toNat % 32))))) ∧
    (s.validate = true → dest ∉ [Operand.pins, .x, .y, .pindirs] →
      exec (.encodeSet dest value) s = .fault (.abort .aSetDest)) ∧
    (s.validate = true → dest ∈ [Operand.pins, .x, .y, .pindirs] → 31 < value.toNat →
      exec (.encodeSet dest value) s = .fault (.abort .aArgRange))

/-! ## The field encoders -/

/-- `encode_delay` (49 R100): `cycles << 8`, the abort above 31, and the round trip; unvalidated it is not
masked. -/
def Obligations.DelayShiftsByEightAndRoundTrips : Prop :=
  ∀ (cycles : WNum) (s : State),
    (s.validate = false ∨ cycles.toNat ≤ 31 →
      exec (.encodeDelay cycles) s = .next (afterWord s (BitVec.ofNat 16 (cycles.toNat <<< 8)))) ∧
    (s.validate = true → 31 < cycles.toNat → exec (.encodeDelay cycles) s = .fault (.abort .aDelayRange)) ∧
    (cycles.toNat ≤ 31 → ∀ w, exec (.encodeDelay cycles) s = .next (afterWord s w) →
      (w.toNat >>> 8) &&& 0x1f = cycles.toNat)

/-- `encode_sideset` (49 R101), for every bit count up to 13: the value left-aligned in bits[12:8]. The count
is checked before the value: that order is the spec's own decision D11. -/
def Obligations.SidesetPlacesTheValueLeftAligned : Prop :=
  ∀ (n v : WNum) (s : State),
    (s.validate = false ∧ n.toNat ≤ 13 ∨ (1 ≤ n.toNat ∧ n.toNat ≤ 5 ∧ v.toNat < 2 ^ n.toNat) →
      exec (sidesetInstr n v) s = .next (afterWord s (BitVec.ofNat 16 (v.toNat <<< (13 - n.toNat))))) ∧
    (s.validate = true → n = 0 ∨ 5 < n.toNat → exec (sidesetInstr n v) s = .fault (.abort .aSidesetCount)) ∧
    (s.validate = true → 1 ≤ n.toNat → n.toNat ≤ 5 → 2 ^ n.toNat ≤ v.toNat →
      exec (sidesetInstr n v) s = .fault (.abort .aSidesetValue))

/-- `encode_sideset_opt` (49 R102), for every bit count up to 12: bit 12 and the value below it. The count is
checked before the value: that order is the spec's own decision D11. -/
def Obligations.OptionalSidesetSetsTheFlagAndPlacesTheValue : Prop :=
  ∀ (n v : WNum) (s : State),
    (s.validate = false ∧ n.toNat ≤ 12 ∨ (1 ≤ n.toNat ∧ n.toNat ≤ 4 ∧ v.toNat < 2 ^ n.toNat) →
      exec (sidesetOptInstr n v) s =
        .next (afterWord s (BitVec.ofNat 16 (0x1000 ||| (v.toNat <<< (12 - n.toNat)))))) ∧
    (s.validate = true → n = 0 ∨ 4 < n.toNat →
      exec (sidesetOptInstr n v) s = .fault (.abort .aSidesetOptCount)) ∧
    (s.validate = true → 1 ≤ n.toNat → n.toNat ≤ 4 → 2 ^ n.toNat ≤ v.toNat →
      exec (sidesetOptInstr n v) s = .fault (.abort .aSidesetOptValue))

/-- A negative shift amount (49 R105): with VALIDATE 0 the operation yields SOME word and one free value is
drawn; nothing is said of which word. With VALIDATE 1 the count aborts before any shift. That the operation runs
and draws is the model's form of UNSPECIFIED16, entry 10. -/
def Obligations.NegativeShiftYieldsAFreeWord : Prop :=
  ∀ (n v : WNum) (s : State),
    (13 < n.toNat → s.validate = false →
      ∃ w, exec (.encodeSideset5 n v) s = .next { afterWord s w with draws := s.draws + 1 }) ∧
    (12 < n.toNat → s.validate = false →
      ∃ w, exec (.encodeSidesetOpt4 n v) s = .next { afterWord s w with draws := s.draws + 1 }) ∧
    (13 < n.toNat → s.validate = true → exec (.encodeSideset5 n v) s = .fault (.abort .aSidesetCount)) ∧
    (12 < n.toNat → s.validate = true → exec (.encodeSidesetOpt4 n v) s = .fault (.abort .aSidesetOptCount))

/-- Where side-set values sit (49 R103): for a legal count the value is the top bits of bits[12:8] (below the
flag for the optional form), the bits left for delay are zero, and the largest results are as tabled. -/
def Obligations.SidesetValuePositions : Prop :=
  ∀ (n v : WNum) (s : State), v.toNat < 2 ^ n.toNat →
    (1 ≤ n.toNat → n.toNat ≤ 5 → ∃ w, exec (sidesetInstr n v) s = .next (afterWord s w) ∧
      (fieldBits w).toNat >>> (5 - n.toNat) = v.toNat ∧
      (fieldBits w).toNat % 2 ^ (5 - n.toNat) = 0 ∧ w.toNat ≤ 0x2000 - 2 ^ (13 - n.toNat)) ∧
    (1 ≤ n.toNat → n.toNat ≤ 4 → ∃ w, exec (sidesetOptInstr n v) s = .next (afterWord s w) ∧
      (fieldBits w).toNat >>> (4 - n.toNat) = 2 ^ n.toNat + v.toNat ∧
      (fieldBits w).toNat % 2 ^ (4 - n.toNat) = 0 ∧ w.toNat ≤ 0x2000 - 2 ^ (12 - n.toNat))

/-- The flag bit (49 R104): the optional form's result always has bit 12 set whenever it is defined, legal or
not; the non-optional form's has it exactly when the value's top bit is set; at value 0 they are 0x1000 and
0. -/
def Obligations.OnlyTheOptionalFormSetsBitTwelveAsAFlag : Prop :=
  (∀ (n v : WNum) (s : State) (w : Word), n.toNat ≤ 12 →
    exec (sidesetOptInstr n v) s = .next (afterWord s w) → w.getLsbD 12 = true) ∧
  (∀ (n v : WNum) (s : State), 1 ≤ n.toNat → n.toNat ≤ 5 → v.toNat < 2 ^ n.toNat →
    ∃ w, exec (sidesetInstr n v) s = .next (afterWord s w) ∧
      (w.getLsbD 12 = true ↔ 2 ^ (n.toNat - 1) ≤ v.toNat)) ∧
  (∀ (n : WNum) (s : State),
    (1 ≤ n.toNat → n.toNat ≤ 5 → exec (sidesetInstr n 0) s = .next (afterWord s 0)) ∧
    (1 ≤ n.toNat → n.toNat ≤ 4 → exec (sidesetOptInstr n 0) s = .next (afterWord s 0x1000)))

/-! ## The caller's combination -/

/-- ORing field words into a base word (49 R106): the base word's class, selector and argument stay and the
field bits are the OR of the parts, for every instruction encoder's word and field encoders' words on
in-range inputs. -/
def Obligations.CombiningKeepsTheBaseFields : Prop :=
  ∀ (i f g : Instr) (s : State) (w x y : Word) (cls : OpClass),
    instrClass i = some cls → instrClass f = none → instrClass g = none →
    f.wellFormed = true → g.wellFormed = true →
    inRange i = true → inRange f = true → inRange g = true →
    exec i s = .next (afterWord s w) → exec f s = .next (afterWord s x) → exec g s = .next (afterWord s y) →
    majorBits (combine w x y) = majorBits w ∧
    selectorBits (combine w x y) = selectorBits w ∧
    argumentBits (combine w x y) = argumentBits w ∧
    fieldBits (combine w x y) = fieldBits x ||| fieldBits y

/-- The usable delay (49 R108): within the bound a side-set width leaves, delay and side-set have no common
bit, so the delay can be read back; and the first delay above the bound overlaps the largest side-set
value. -/
def Obligations.DelayWithinTheBoundDoesNotOverlapSideset : Prop :=
  ∀ (c n v : WNum) (s : State) (w : Word), c.toNat ≤ 31 → exec (.encodeDelay c) s = .next (afterWord s w) →
    v.toNat < 2 ^ n.toNat →
    (1 ≤ n.toNat → n.toNat ≤ 5 → ∃ x, exec (sidesetInstr n v) s = .next (afterWord s x) ∧
      (c.toNat ≤ usableDelay .plain n.toNat → w &&& x = 0 ∧
        (fieldBits (combine 0 w x)).toNat % 2 ^ (5 - n.toNat) = c.toNat) ∧
      (v.toNat = 2 ^ n.toNat - 1 → usableDelay .plain n.toNat < c.toNat → w &&& x ≠ 0)) ∧
    (1 ≤ n.toNat → n.toNat ≤ 4 → ∃ x, exec (sidesetOptInstr n v) s = .next (afterWord s x) ∧
      (c.toNat ≤ usableDelay .optional n.toNat → w &&& x = 0 ∧
        (fieldBits (combine 0 w x)).toNat % 2 ^ (4 - n.toNat) = c.toNat) ∧
      (v.toNat = 2 ^ n.toNat - 1 → usableDelay .optional n.toNat < c.toNat → w &&& x ≠ 0))

/-- OR is not a field insert (70 R131): two delays ORed into one word read as the OR of the two counts. -/
def Obligations.TwoDelaysCombineToTheOrOfTheirCounts : Prop :=
  ∀ (c d : WNum) (s : State) (base : Word), c.toNat ≤ 31 → d.toNat ≤ 31 → fieldBits base = 0 →
    ∃ w x, exec (.encodeDelay c) s = .next (afterWord s w) ∧ exec (.encodeDelay d) s = .next (afterWord s x) ∧
      (fieldBits (combine base w x)).toNat = c.toNat ||| d.toNat

/-! ## Words -/

/-- The four worked values of the source, in both configurations (30 R47). -/
def Obligations.WorkedExamplesOfTheSource : Prop :=
  ∀ s : State,
    exec (.encodeJmp 5) s = .next (afterWord s 0x0005) ∧
    exec (.encodeWaitGpio true 3) s = .next (afterWord s 0x2083) ∧
    exec (.encodeSideset3 5) s = .next (afterWord s 0x1400) ∧
    exec (.encodeIrqSet true 2) s = .next (afterWord s 0xC012)

/-- Distinct requests with one word (30 R54), so no decoder of words is implied: NOP and MOV y y; IN counts
32 and 0; PUSH with `4 | k` and PULL with `k` or `4 | k`; a delay and a five-bit side-set; zero side-set
values and zero delay. GK. -/
def Obligations.DistinctRequestsYieldOneWord : Prop :=
  ∀ s : State,
    exec .encodeNop s = exec (.encodeMov .y .y) s ∧
    (s.validate = false → ∀ o, exec (.encodeIn o 32) s = exec (.encodeIn o 0) s) ∧
    (∀ k g : WNum, k.toNat ≤ 3 → g.toNat ≤ 31 → ∃ t, exec (.encodeArgsPush (k ||| 4) g) s = .next t ∧
      exec (.encodeArgsPull k g) s = .next t ∧ exec (.encodeArgsPull (k ||| 4) g) s = .next t) ∧
    (∀ c : WNum, c.toNat ≤ 31 → exec (.encodeDelay c) s = exec (.encodeSideset5 5 c) s) ∧
    (∀ n : WNum, 1 ≤ n.toNat → n.toNat ≤ 5 → exec (sidesetInstr n 0) s = exec (.encodeDelay 0) s)

/-- Thirteen words written out bit by bit from the table are read as the instruction they stand for: at least
one of every per-operation and field encoder family and one of the raw `encode_args`; a fourteenth, with field
bits on other bits, is rejected by name (30 R46). That `readWord` chooses this instruction among those with the
word, and so never one of `encode_args_with_operand`, is the model's choice, entry 5. GK. -/
def Obligations.WordsWrittenFromTheTableAreReadRight : Prop :=
  readWord 0b0000000001011111 = .ok (.encodeJmpXDec 31) ∧
  readWord 0b0010000011010111 = .ok (.encodeWaitIrq true true 7) ∧
  readWord 0b0100000011100000 = .ok (.encodeIn .osr 32) ∧
  readWord 0b0110000010100101 = .ok (.encodeOut .pc 5) ∧
  readWord 0b1000000001000000 = .ok (.encodePush true false) ∧
  readWord 0b1000000010100000 = .ok (.encodePull false true) ∧
  readWord 0b1010000011010111 = .ok (.encodeMovReverse .isr .osr) ∧
  readWord 0b1100000001000101 = .ok (.encodeIrqClear false 5) ∧
  readWord 0b1110000010000001 = .ok (.encodeSet .pindirs 1) ∧
  readWord 0b0000011100000000 = .ok (.encodeDelay 7) ∧
  readWord 0b0000110000000000 = .ok (.encodeSideset3 3) ∧
  readWord 0b0001110000000000 = .ok (.encodeSidesetOpt2 3) ∧
  readWord 0b1010000000111010 = .ok (.encodeArgsMov 1 26) ∧
  readWord 0b0001000000000101 = .error (.fieldBitsOnBase 0b0001000000000101)

/-- THE READER OF TABLE WORDS IS A RIGHT INVERSE OF THE ENCODER: an instruction it reads from a word is well
formed and legal and yields that very word, in both configurations. The reader itself is the model's,
entry 5. -/
def Obligations.ReadWordsEncodeBack : Prop :=
  ∀ (w : Word) (i : Instr), readWord w = .ok i →
    i.wellFormed = true ∧ legal i = true ∧ opcodeWord i = w ∧
    ∀ s : State, exec i s = .next (afterWord s w)

/-- The reader misses nothing: the word of every request on in-range inputs, in either configuration, is read
as some instruction with the same word; and only a word with both field bits and other bits is rejected.
The reader itself is the model's, entry 5. -/
def Obligations.EveryEmittedWordIsRead : Prop :=
  (∀ (i : Instr) (s : State) (w : Word), i.wellFormed = true → inRange i = true →
    exec i s = .next (afterWord s w) →
    ∃ j, readWord w = .ok j ∧ ∀ u, exec j u = .next (afterWord u w)) ∧
  (∀ w : Word, fieldBits w = 0 ∨ (majorBits w = 0 ∧ selectorBits w = 0 ∧ argumentBits w = 0) →
    ∃ j, readWord w = .ok j) ∧
  (∀ w : Word, fieldBits w ≠ 0 → ¬ (majorBits w = 0 ∧ selectorBits w = 0 ∧ argumentBits w = 0) →
    readWord w = .error (.fieldBitsOnBase w))

/-- A table word put where the step finds its request is run by the very next step, which yields that word
(entry 4); nothing else of the state changes. -/
def Obligations.StepRunsThePresentedTableWord : Prop :=
  ∀ (s : State) (w : Nat) (i : Instr), decodeTableWord 16 w = some i →
    step (s.withFetchWord 16 w) = exec i (s.withFetchWord 16 w) ∧
    step (s.withFetchWord 16 w) = .next (afterWord { s with inputs := encode i } (BitVec.ofNat 16 w))
end

