-- ==== Sys2Proof/Laws/State.lean ====
section
/-! SUPPORT. One lemma per field per update of the state, so that no proof unfolds a record update. -/

namespace Sys2Proof.Machine

variable (s : State) (r : Request) (w : Word) (used m e d : Bool)

@[simp] theorem State.settle_valModule : s.settle.valModule = s.valModule := rfl
@[simp] theorem State.settle_valEnableAll : s.settle.valEnableAll = s.valEnableAll := rfl
@[simp] theorem State.settle_valDisableAll : s.settle.valDisableAll = s.valDisableAll := rfl
@[simp] theorem State.settle_inputs : s.settle.inputs = s.inputs := rfl
@[simp] theorem State.settle_outputs : s.settle.outputs = s.combinational := rfl
@[simp] theorem State.settle_draws : s.settle.draws = s.draws := rfl

@[simp] theorem State.present_valModule : (s.present r).valModule = s.valModule := rfl
@[simp] theorem State.present_valEnableAll : (s.present r).valEnableAll = s.valEnableAll := rfl
@[simp] theorem State.present_valDisableAll : (s.present r).valDisableAll = s.valDisableAll := rfl
@[simp] theorem State.present_inputs : (s.present r).inputs = r := rfl
@[simp] theorem State.present_outputs :
    (s.present r).outputs = ({ s with inputs := r } : State).combinational := rfl
@[simp] theorem State.present_draws : (s.present r).draws = s.draws := rfl

@[simp] theorem State.drive_valModule : (s.drive w).valModule = s.valModule := rfl
@[simp] theorem State.drive_valEnableAll : (s.drive w).valEnableAll = s.valEnableAll := rfl
@[simp] theorem State.drive_valDisableAll : (s.drive w).valDisableAll = s.valDisableAll := rfl
@[simp] theorem State.drive_inputs : (s.drive w).inputs = s.inputs := rfl
@[simp] theorem State.drive_outputs :
    (s.drive w).outputs = some { word := some w, abort := false, cause := 0 } := rfl
@[simp] theorem State.drive_draws : (s.drive w).draws = s.draws := rfl

@[simp] theorem State.drawn_valModule : (s.drawn used).valModule = s.valModule := rfl
@[simp] theorem State.drawn_valEnableAll : (s.drawn used).valEnableAll = s.valEnableAll := rfl
@[simp] theorem State.drawn_valDisableAll : (s.drawn used).valDisableAll = s.valDisableAll := rfl
@[simp] theorem State.drawn_inputs : (s.drawn used).inputs = s.inputs := rfl
@[simp] theorem State.drawn_outputs : (s.drawn used).outputs = s.outputs := rfl
@[simp] theorem State.drawn_draws : (s.drawn used).draws = (if used then s.draws + 1 else s.draws) := rfl

@[simp] theorem afterWord_valModule : (afterWord s w).valModule = s.valModule := rfl
@[simp] theorem afterWord_valEnableAll : (afterWord s w).valEnableAll = s.valEnableAll := rfl
@[simp] theorem afterWord_valDisableAll : (afterWord s w).valDisableAll = s.valDisableAll := rfl
@[simp] theorem afterWord_inputs : (afterWord s w).inputs = s.inputs := rfl
@[simp] theorem afterWord_outputs :
    (afterWord s w).outputs = some { word := some w, abort := false, cause := 0 } := rfl
@[simp] theorem afterWord_draws : (afterWord s w).draws = s.draws := rfl

@[simp] theorem withStraps_valModule : (withStraps s m e d).valModule = m := rfl
@[simp] theorem withStraps_valEnableAll : (withStraps s m e d).valEnableAll = e := rfl
@[simp] theorem withStraps_valDisableAll : (withStraps s m e d).valDisableAll = d := rfl
@[simp] theorem withStraps_inputs : (withStraps s m e d).inputs = s.inputs := rfl
@[simp] theorem withStraps_outputs :
    (withStraps s m e d).outputs =
      ({ s with valModule := m, valEnableAll := e, valDisableAll := d } : State).combinational := rfl
@[simp] theorem withStraps_draws : (withStraps s m e d).draws = s.draws := rfl

@[simp] theorem State.settle_validate : s.settle.validate = s.validate := rfl
@[simp] theorem State.present_validate : (s.present r).validate = s.validate := rfl
@[simp] theorem State.drive_validate : (s.drive w).validate = s.validate := rfl
@[simp] theorem State.drawn_validate : (s.drawn used).validate = s.validate := rfl
@[simp] theorem afterWord_validate : (afterWord s w).validate = s.validate := rfl
@[simp] theorem withStraps_validate : (withStraps s m e d).validate = ((m || e) && !d) := rfl

/-- Nothing is drawn where no free value is used. -/
@[simp] theorem State.drawn_false : s.drawn false = s := rfl

/-- Driving a word is what claims call the state after the word. -/
@[simp] theorem State.drive_eq_afterWord : s.drive w = afterWord s w := rfl

/-- The state after a word shows which word it was. -/
@[simp] theorem afterWord_inj {w w' : Word} : afterWord s w = afterWord s w' ↔ w = w' := by
  simp [afterWord]

/-- Only the last word counts. -/
@[simp] theorem afterWord_afterWord (w' : Word) : afterWord (afterWord s w) w' = afterWord s w' := rfl

end Sys2Proof.Machine
end

