-- ==== Sys2Proof/Laws/Ops.lean ====
section
/-! SUPPORT. What each shared operation can do, said once: when it answers a word or a number, when it aborts
and with which cause. -/

namespace Sys2Proof.Machine

/-! ## `require` and the end of an operation -/

@[simp] theorem require_eq_ok_iff {v c : Bool} {k : Cause} {u : Unit} :
    require v c k = .ok u ↔ (v = false ∨ c = true) := by
  cases v <;> cases c <;> simp [require]

@[simp] theorem require_eq_error_iff {v c : Bool} {k k' : Cause} :
    require v c k = .error k' ↔ (v = true ∧ c = false ∧ k' = k) := by
  cases v <;> cases c <;> simp [require, eq_comm]

/-- A sequence of two computations answers a value exactly when both do. -/
theorem bind_eq_ok_iff {α β : Type} {x : Except Cause α} {f : α → Except Cause β} {b : β} :
    (x >>= f) = .ok b ↔ ∃ a, x = .ok a ∧ f a = .ok b := by
  cases x <;> simp [bind, Except.bind]

/-- A sequence of two computations aborts with the first cause that arises. -/
theorem bind_eq_error_iff {α β : Type} {x : Except Cause α} {f : α → Except Cause β} {k : Cause} :
    (x >>= f) = .error k ↔ x = .error k ∨ ∃ a, x = .ok a ∧ f a = .error k := by
  cases x <;> simp [bind, Except.bind]

/-- A step whose operation ends has a next state exactly when the operation yields a word. -/
theorem complete_eq_next_iff {r : Except Cause Word} {s t : State} :
    complete r s = .next t ↔ ∃ w, r = .ok w ∧ t = afterWord s w := by
  cases r <;> simp [complete, raiseAbort, eq_comm]

/-- A step whose operation ends faults exactly when the operation aborts. -/
theorem complete_eq_fault_iff {r : Except Cause Word} {s : State} {f : Fault} :
    complete r s = .fault f ↔ ∃ k, r = .error k ∧ f = .abort k := by
  cases r <;> simp [complete, raiseAbort, eq_comm]

/-- An operation is never refused. -/
theorem complete_ne_refused {r : Except Cause Word} {s : State} {x : Refusal} :
    complete r s ≠ .refused x := by
  cases r <;> simp [complete, raiseAbort]

@[simp] theorem complete_ok (w : Word) (s : State) : complete (.ok w) s = .next (afterWord s w) := rfl

@[simp] theorem complete_error (k : Cause) (s : State) : complete (.error k) s = .fault (.abort k) := rfl

/-! ## The core -/

/-- The argument is in the range of its class (41 R64). -/
def argumentInRange (cls : OpClass) (g : Nat) : Prop :=
  ((cls = .in_ ∨ cls = .out) → 1 ≤ g ∧ g ≤ 32) ∧ (¬ (cls = .in_ ∨ cls = .out) → g ≤ 31)

theorem requireArgument_eq_ok_iff {v : Bool} {cls : OpClass} {g : Nat} {u : Unit} :
    requireArgument v cls g = .ok u ↔ v = false ∨ argumentInRange cls g := by
  unfold requireArgument argumentInRange
  split <;> rename_i h <;> simp [h]

theorem requireArgument_eq_error_iff {v : Bool} {cls : OpClass} {g : Nat} {k : Cause} :
    requireArgument v cls g = .error k ↔ v = true ∧ ¬ argumentInRange cls g ∧
      k = if cls = .in_ ∨ cls = .out then Cause.aArgRangeInout else .aArgRange := by
  unfold requireArgument argumentInRange
  split <;> rename_i h <;> simp [h]

/-- When the core yields a word, and which. -/
theorem encodeArgs_eq_ok_iff {v : Bool} {cls : OpClass} {k g : Nat} {w : Word} :
    encodeArgs v cls k g = .ok w ↔ (v = false ∨ (k ≤ 7 ∧ argumentInRange cls g)) ∧ w = pack cls k g := by
  unfold encodeArgs
  simp only [bind_eq_ok_iff, require_eq_ok_iff, requireArgument_eq_ok_iff, pure, Except.pure,
    Except.ok.injEq, decide_eq_true_eq, eq_comm (a := w)]
  cases v <;> simp [and_assoc]

/-- When the core aborts, and with which cause: the selector first (60 R115). -/
theorem encodeArgs_eq_error_iff {v : Bool} {cls : OpClass} {k g : Nat} {c : Cause} :
    encodeArgs v cls k g = .error c ↔ v = true ∧
      ((7 < k ∧ c = .aSelRange) ∨ (k ≤ 7 ∧ ¬ argumentInRange cls g ∧
        c = if cls = .in_ ∨ cls = .out then Cause.aArgRangeInout else .aArgRange)) := by
  unfold encodeArgs
  simp only [bind_eq_error_iff, require_eq_ok_iff, require_eq_error_iff, requireArgument_eq_ok_iff,
    requireArgument_eq_error_iff, pure, Except.pure, decide_eq_true_eq, decide_eq_false_iff_not, not_le]
  cases v <;> simp

/-- When the IRQ helper answers a number, and which (41 R67). -/
theorem irqNum_eq_ok_iff {v r : Bool} {irq n : Nat} :
    irqNum v r irq = .ok n ↔ (v = false ∨ irq ≤ 7) ∧ n = irqComposite r irq := by
  unfold irqNum
  simp only [bind_eq_ok_iff, require_eq_ok_iff, pure, Except.pure, Except.ok.injEq, decide_eq_true_eq,
    eq_comm (a := n)]
  simp

/-- When the IRQ helper aborts (41 R67). -/
theorem irqNum_eq_error_iff {v r : Bool} {irq : Nat} {c : Cause} :
    irqNum v r irq = .error c ↔ v = true ∧ 7 < irq ∧ c = .aIrqRange := by
  unfold irqNum
  simp only [bind_eq_error_iff, require_eq_error_iff, pure, Except.pure, decide_eq_false_iff_not, not_le]
  simp

/-- When a legality check passes (40 R59). -/
theorem requireAllowed_eq_ok_iff {v : Bool} {o : Operand} {u : UseClass} {c : Cause} {x : Unit} :
    requireAllowed v o u c = .ok x ↔ v = false ∨ K.forbid o u = false := by
  simp [requireAllowed]

/-- When a legality check aborts (40 R59). -/
theorem requireAllowed_eq_error_iff {v : Bool} {o : Operand} {u : UseClass} {c c' : Cause} :
    requireAllowed v o u c = .error c' ↔ v = true ∧ K.forbid o u = true ∧ c' = c := by
  simp [requireAllowed]

/-! ## Bits -/

theorem trunc16_or (m n : Nat) : trunc16 (m ||| n) = trunc16 m ||| trunc16 n := by
  simp [trunc16, BitVec.ofNat_or]

/-- Cutting to 16 bits commutes with the shift by 5. -/
theorem trunc16_shiftLeft_five (k : Nat) : trunc16 (k <<< 5) = trunc16 k <<< 5 := by
  apply BitVec.eq_of_toNat_eq
  simp only [trunc16, BitVec.toNat_ofNat, BitVec.toNat_shiftLeft, Nat.shiftLeft_eq]
  omega

/-- The packing formula on words: the tag, the selector from bit 5 up, the low five bits of the argument. -/
theorem pack_eq (cls : OpClass) (k g : Nat) :
    pack cls k g = K.tag cls ||| (trunc16 k <<< 5) ||| trunc16 (g % 32) := by
  have h : g &&& 0x1f = g % 32 := Nat.and_two_pow_sub_one_eq_mod g 5
  simp only [pack, trunc16_or, h, trunc16_shiftLeft_five]
  simp [trunc16]

/-- A selector is at most 7 (40 R60). -/
theorem selNat_le (o : Operand) : selNat o ≤ 7 := by cases o <;> decide

/-- The selectors the wrappers pass are at most 7 (41 R65). -/
theorem waitSelector_le (src : WaitSrc) (p : Bool) : waitSelector src p ≤ 7 := by
  cases src <;> cases p <;> decide

theorem ppSelector_le (f b : Bool) : ppSelector f b ≤ 3 := by cases f <;> cases b <;> decide

theorem jmpCond_le (c : JmpCond) : K.jmpCond c ≤ 7 := by cases c <;> decide

theorem irqSub_le (c : IrqSub) : K.irqSub c ≤ 2 := by cases c <;> decide

/-- A legal IRQ index gives a number that fits the argument field (41 R67). -/
theorem irqComposite_le {r : Bool} {irq : Nat} (h : irq ≤ 7) : irqComposite r irq ≤ 23 := by
  interval_cases irq <;> cases r <;> decide

/-- A MOV argument fits the argument field (46 R88). -/
theorem movArgument_le (op : MovOp) (src : Operand) : movArgument op src ≤ 23 := by
  cases op <;> cases src <;> decide

end Sys2Proof.Machine
end

