-- ==== Sys2Proof/Laws/Wrappers.lean ====
section
/-! SUPPORT. One lemma per wrapper for its word and one for its aborts: when `encode_in` and the others answer a
word, and which; when they abort, and with which cause. -/

namespace Sys2Proof.Machine

/-- When the operand wrapper yields a word (41 R66): its selector is always in range. -/
theorem encodeArgsWithOperand_eq_ok_iff {v : Bool} {cls : OpClass} {o : Operand} {g : Nat} {w : Word} :
    encodeArgsWithOperand v cls o g = .ok w ↔ (v = false ∨ argumentInRange cls g) ∧ w = pack cls (selNat o) g := by
  unfold encodeArgsWithOperand
  rw [encodeArgs_eq_ok_iff]
  simp [selNat_le]

/-- When the operand wrapper aborts (41 R66): only on its value. -/
theorem encodeArgsWithOperand_eq_error_iff {v : Bool} {cls : OpClass} {o : Operand} {g : Nat} {c : Cause} :
    encodeArgsWithOperand v cls o g = .error c ↔ v = true ∧ ¬ argumentInRange cls g ∧
      c = if cls = .in_ ∨ cls = .out then Cause.aArgRangeInout else .aArgRange := by
  unfold encodeArgsWithOperand
  rw [encodeArgs_eq_error_iff]
  simp [selNat_le, Nat.not_lt.2 (selNat_le o)]

/-- When `encode_in` yields a word (44 R83). -/
theorem encodeIn_eq_ok_iff {v : Bool} {o : Operand} {c : Nat} {w : Word} :
    encodeIn v o c = .ok w ↔
      (v = false ∨ (K.forbid o .inSrc = false ∧ 1 ≤ c ∧ c ≤ 32)) ∧ w = pack .in_ (selNat o) c := by
  simp only [encodeIn, bind_eq_ok_iff, requireAllowed_eq_ok_iff, encodeArgsWithOperand_eq_ok_iff]
  cases v <;> simp [argumentInRange, and_assoc]

/-- When `encode_in` aborts: legality first (44 R82, R83). -/
theorem encodeIn_eq_error_iff {v : Bool} {o : Operand} {c : Nat} {k : Cause} :
    encodeIn v o c = .error k ↔ v = true ∧
      ((K.forbid o .inSrc = true ∧ k = .aInSrc) ∨
        (K.forbid o .inSrc = false ∧ ¬ (1 ≤ c ∧ c ≤ 32) ∧ k = .aArgRangeInout)) := by
  simp only [encodeIn, bind_eq_error_iff, requireAllowed_eq_ok_iff, requireAllowed_eq_error_iff,
    encodeArgsWithOperand_eq_error_iff]
  cases v <;> simp [argumentInRange]

/-- When `encode_out` yields a word (44 R84). -/
theorem encodeOut_eq_ok_iff {v : Bool} {o : Operand} {c : Nat} {w : Word} :
    encodeOut v o c = .ok w ↔
      (v = false ∨ (K.forbid o .outDest = false ∧ 1 ≤ c ∧ c ≤ 32)) ∧ w = pack .out (selNat o) c := by
  simp only [encodeOut, bind_eq_ok_iff, requireAllowed_eq_ok_iff, encodeArgsWithOperand_eq_ok_iff]
  cases v <;> simp [argumentInRange, and_assoc]

/-- When `encode_out` aborts: legality first (44 R82, R84). -/
theorem encodeOut_eq_error_iff {v : Bool} {o : Operand} {c : Nat} {k : Cause} :
    encodeOut v o c = .error k ↔ v = true ∧
      ((K.forbid o .outDest = true ∧ k = .aOutDest) ∨
        (K.forbid o .outDest = false ∧ ¬ (1 ≤ c ∧ c ≤ 32) ∧ k = .aArgRangeInout)) := by
  simp only [encodeOut, bind_eq_error_iff, requireAllowed_eq_ok_iff, requireAllowed_eq_error_iff,
    encodeArgsWithOperand_eq_error_iff]
  cases v <;> simp [argumentInRange]

/-- When `encode_set` yields a word (48 R98). -/
theorem encodeSet_eq_ok_iff {v : Bool} {o : Operand} {x : Nat} {w : Word} :
    encodeSet v o x = .ok w ↔
      (v = false ∨ (K.forbid o .setDest = false ∧ x ≤ 31)) ∧ w = pack .set (selNat o) x := by
  simp only [encodeSet, bind_eq_ok_iff, requireAllowed_eq_ok_iff, encodeArgsWithOperand_eq_ok_iff]
  cases v <;> simp [argumentInRange, and_assoc]

/-- When `encode_set` aborts: legality first (48 R98). -/
theorem encodeSet_eq_error_iff {v : Bool} {o : Operand} {x : Nat} {k : Cause} :
    encodeSet v o x = .error k ↔ v = true ∧
      ((K.forbid o .setDest = true ∧ k = .aSetDest) ∨
        (K.forbid o .setDest = false ∧ 31 < x ∧ k = .aArgRange)) := by
  simp only [encodeSet, bind_eq_error_iff, requireAllowed_eq_ok_iff, requireAllowed_eq_error_iff,
    encodeArgsWithOperand_eq_error_iff]
  cases v <;> simp [argumentInRange]

/-- When a MOV encoder yields a word (46 R88). -/
theorem encodeMov_eq_ok_iff {v : Bool} {op : MovOp} {d o : Operand} {w : Word} :
    encodeMov v op d o = .ok w ↔
      (v = false ∨ (K.forbid d .movDest = false ∧ K.forbid o .movSrc = false)) ∧
        w = pack .mov (selNat d) (movArgument op o) := by
  have h : argumentInRange .mov (movArgument op o) := by
    have := movArgument_le op o
    simp only [argumentInRange]
    exact ⟨by simp, fun _ => by omega⟩
  simp only [encodeMov, bind_eq_ok_iff, requireAllowed_eq_ok_iff, encodeArgsWithOperand_eq_ok_iff, h]
  cases v <;> simp [and_assoc]

/-- When a MOV encoder aborts: destination first (46 R88). -/
theorem encodeMov_eq_error_iff {v : Bool} {op : MovOp} {d o : Operand} {k : Cause} :
    encodeMov v op d o = .error k ↔ v = true ∧
      ((K.forbid d .movDest = true ∧ k = .aMovDest) ∨
        (K.forbid d .movDest = false ∧ K.forbid o .movSrc = true ∧ k = .aMovSrc)) := by
  have h : argumentInRange .mov (movArgument op o) := by
    have := movArgument_le op o
    simp only [argumentInRange]
    exact ⟨by simp, fun _ => by omega⟩
  simp only [encodeMov, bind_eq_error_iff, requireAllowed_eq_ok_iff, requireAllowed_eq_error_iff,
    encodeArgsWithOperand_eq_error_iff, h]
  cases v <;> simp

/-- A legal IRQ index never fails the core's check (41 R67). -/
theorem argumentInRange_irqComposite {cls : OpClass} {r : Bool} {n : Nat} (hn : n ≤ 7)
    (hc : ¬ (cls = .in_ ∨ cls = .out)) : argumentInRange cls (irqComposite r n) :=
  ⟨fun h => absurd h hc, fun _ => (irqComposite_le hn).trans (by decide)⟩

/-- When an IRQ encoder yields a word (47 R93). -/
theorem encodeIrq_eq_ok_iff {v r : Bool} {sub : IrqSub} {n : Nat} {w : Word} :
    encodeIrq v sub r n = .ok w ↔
      (v = false ∨ n ≤ 7) ∧ w = pack .irq (K.irqSub sub) (irqComposite r n) := by
  have hs : K.irqSub sub ≤ 7 := (irqSub_le sub).trans (by decide)
  simp only [encodeIrq, bind_eq_ok_iff, irqNum_eq_ok_iff, encodeArgs_eq_ok_iff, hs, true_and]
  constructor
  · rintro ⟨_, ⟨h, rfl⟩, -, rfl⟩
    exact ⟨h, rfl⟩
  · rintro ⟨h, rfl⟩
    exact ⟨_, ⟨h, rfl⟩, h.imp id fun h => argumentInRange_irqComposite h (by simp), rfl⟩

/-- When an IRQ encoder aborts: only in the helper (47 R93). -/
theorem encodeIrq_eq_error_iff {v r : Bool} {sub : IrqSub} {n : Nat} {k : Cause} :
    encodeIrq v sub r n = .error k ↔ v = true ∧ 7 < n ∧ k = .aIrqRange := by
  have hs : K.irqSub sub ≤ 7 := (irqSub_le sub).trans (by decide)
  simp only [encodeIrq, bind_eq_error_iff, irqNum_eq_error_iff, irqNum_eq_ok_iff, encodeArgs_eq_error_iff]
  constructor
  · rintro (h | ⟨_, ⟨h, rfl⟩, hv, h' | h'⟩)
    · exact h
    · exact absurd hs (Nat.not_le.2 h'.1)
    · have hn : n ≤ 7 := h.resolve_left (by simp [hv])
      exact absurd (argumentInRange_irqComposite hn (by simp)) h'.2.1
  · exact .inl

/-- When `encode_wait_irq` yields a word (43 R81). -/
theorem encodeWaitIrq_eq_ok_iff {v p r : Bool} {n : Nat} {w : Word} :
    encodeWaitIrq v p r n = .ok w ↔
      (v = false ∨ n ≤ 7) ∧ w = pack .wait (waitSelector .irq p) (irqComposite r n) := by
  simp only [encodeWaitIrq, bind_eq_ok_iff, irqNum_eq_ok_iff, encodeArgs_eq_ok_iff, waitSelector_le, true_and]
  constructor
  · rintro ⟨_, ⟨h, rfl⟩, -, rfl⟩
    exact ⟨h, rfl⟩
  · rintro ⟨h, rfl⟩
    exact ⟨_, ⟨h, rfl⟩, h.imp id fun h => argumentInRange_irqComposite h (by simp), rfl⟩

/-- When `encode_wait_irq` aborts: only in the helper (43 R81). -/
theorem encodeWaitIrq_eq_error_iff {v p r : Bool} {n : Nat} {k : Cause} :
    encodeWaitIrq v p r n = .error k ↔ v = true ∧ 7 < n ∧ k = .aIrqRange := by
  simp only [encodeWaitIrq, bind_eq_error_iff, irqNum_eq_error_iff, irqNum_eq_ok_iff, encodeArgs_eq_error_iff]
  constructor
  · rintro (h | ⟨_, ⟨h, rfl⟩, hv, h' | h'⟩)
    · exact h
    · exact absurd (waitSelector_le .irq p) (Nat.not_le.2 h'.1)
    · have hn : n ≤ 7 := h.resolve_left (by simp [hv])
      exact absurd (argumentInRange_irqComposite hn (by simp)) h'.2.1
  · exact .inl

/-- When `encode_delay` yields a word (49 R100). -/
theorem encodeDelay_eq_ok_iff {v : Bool} {c : Nat} {w : Word} :
    encodeDelay v c = .ok w ↔ (v = false ∨ c ≤ 31) ∧ w = trunc16 (c <<< 8) := by
  simp only [encodeDelay, bind_eq_ok_iff, require_eq_ok_iff, decide_eq_true_eq]
  simp [pure, Except.pure, eq_comm]

/-- When `encode_delay` aborts (49 R100). -/
theorem encodeDelay_eq_error_iff {v : Bool} {c : Nat} {k : Cause} :
    encodeDelay v c = .error k ↔ v = true ∧ 31 < c ∧ k = .aDelayRange := by
  simp only [encodeDelay, bind_eq_error_iff, require_eq_error_iff, decide_eq_false_iff_not]
  simp [pure, Except.pure]

end Sys2Proof.Machine
end

