-- ==== Sys2Proof/Laws/Exec.lean ====
section
/-! SUPPORT. What a step can do, said once: every instruction is one pure operation on VALIDATE and the draw
count, whose word or abort ends the step. Claims about the state cite `exec_eq_complete` and do not unfold
the meanings. -/

namespace Sys2Proof.Machine

/-- The side-set encoders on VALIDATE and the draw count. -/
def sidesetResult (form : SidesetForm) (n v : Nat) (validate : Bool) (draws : Nat) : Except Cause Word :=
  match form with
  | .plain => encodeSideset validate (Config.negShift draws form n v) n v
  | .optional => encodeSidesetOpt validate (Config.negShift draws form n v) n v

/-- The operation behind an instruction, as a function of VALIDATE and the draw count. -/
def result : Instr → Bool → Nat → Except Cause Word
  | .encodeArgsJmp k g, v, _ => encodeArgs v .jmp k.toNat g.toNat
  | .encodeArgsWait k g, v, _ => encodeArgs v .wait k.toNat g.toNat
  | .encodeArgsIn k g, v, _ => encodeArgs v .in_ k.toNat g.toNat
  | .encodeArgsOut k g, v, _ => encodeArgs v .out k.toNat g.toNat
  | .encodeArgsPush k g, v, _ => encodeArgs v .push k.toNat g.toNat
  | .encodeArgsPull k g, v, _ => encodeArgs v .pull k.toNat g.toNat
  | .encodeArgsMov k g, v, _ => encodeArgs v .mov k.toNat g.toNat
  | .encodeArgsIrq k g, v, _ => encodeArgs v .irq k.toNat g.toNat
  | .encodeArgsSet k g, v, _ => encodeArgs v .set k.toNat g.toNat
  | .encodeArgsWithOperandJmp o g, v, _ => encodeArgsWithOperand v .jmp o g.toNat
  | .encodeArgsWithOperandWait o g, v, _ => encodeArgsWithOperand v .wait o g.toNat
  | .encodeArgsWithOperandIn o g, v, _ => encodeArgsWithOperand v .in_ o g.toNat
  | .encodeArgsWithOperandOut o g, v, _ => encodeArgsWithOperand v .out o g.toNat
  | .encodeArgsWithOperandPush o g, v, _ => encodeArgsWithOperand v .push o g.toNat
  | .encodeArgsWithOperandPull o g, v, _ => encodeArgsWithOperand v .pull o g.toNat
  | .encodeArgsWithOperandMov o g, v, _ => encodeArgsWithOperand v .mov o g.toNat
  | .encodeArgsWithOperandIrq o g, v, _ => encodeArgsWithOperand v .irq o g.toNat
  | .encodeArgsWithOperandSet o g, v, _ => encodeArgsWithOperand v .set o g.toNat
  | .encodeJmp a, v, _ => encodeArgs v .jmp (K.jmpCond .always) a.toNat
  | .encodeJmpNotX a, v, _ => encodeArgs v .jmp (K.jmpCond .notX) a.toNat
  | .encodeJmpXDec a, v, _ => encodeArgs v .jmp (K.jmpCond .xDec) a.toNat
  | .encodeJmpNotY a, v, _ => encodeArgs v .jmp (K.jmpCond .notY) a.toNat
  | .encodeJmpYDec a, v, _ => encodeArgs v .jmp (K.jmpCond .yDec) a.toNat
  | .encodeJmpXNeY a, v, _ => encodeArgs v .jmp (K.jmpCond .xNeY) a.toNat
  | .encodeJmpPin a, v, _ => encodeArgs v .jmp (K.jmpCond .pin) a.toNat
  | .encodeJmpNotOsre a, v, _ => encodeArgs v .jmp (K.jmpCond .notOsre) a.toNat
  | .encodeWaitGpio p i, v, _ => encodeArgs v .wait (waitSelector .gpio p) i.toNat
  | .encodeWaitPin p i, v, _ => encodeArgs v .wait (waitSelector .pin p) i.toNat
  | .encodeWaitIrq p r n, v, _ => encodeWaitIrq v p r n.toNat
  | .encodeIn o c, v, _ => encodeIn v o c.toNat
  | .encodeOut o c, v, _ => encodeOut v o c.toNat
  | .encodePush f b, v, _ => encodeArgs v .push (ppSelector f b) 0
  | .encodePull f b, v, _ => encodeArgs v .pull (ppSelector f b) 0
  | .encodeMov d o, v, _ => encodeMov v .none d o
  | .encodeMovNot d o, v, _ => encodeMov v .not d o
  | .encodeMovReverse d o, v, _ => encodeMov v .reverse d o
  | .encodeNop, v, _ => encodeMov v .none .y .y
  | .encodeIrqSet r n, v, _ => encodeIrq v .set r n.toNat
  | .encodeIrqWait r n, v, _ => encodeIrq v .wait r n.toNat
  | .encodeIrqClear r n, v, _ => encodeIrq v .clear r n.toNat
  | .encodeSet o g, v, _ => encodeSet v o g.toNat
  | .encodeDelay c, v, _ => encodeDelay v c.toNat
  | .encodeSideset1 e, v, d => sidesetResult .plain 1 e.toNat v d
  | .encodeSideset2 e, v, d => sidesetResult .plain 2 e.toNat v d
  | .encodeSideset3 e, v, d => sidesetResult .plain 3 e.toNat v d
  | .encodeSideset4 e, v, d => sidesetResult .plain 4 e.toNat v d
  | .encodeSideset5 n e, v, d => sidesetResult .plain n.toNat e.toNat v d
  | .encodeSidesetOpt1 e, v, d => sidesetResult .optional 1 e.toNat v d
  | .encodeSidesetOpt2 e, v, d => sidesetResult .optional 2 e.toNat v d
  | .encodeSidesetOpt3 e, v, d => sidesetResult .optional 3 e.toNat v d
  | .encodeSidesetOpt4 n e, v, d => sidesetResult .optional n.toNat e.toNat v d

/-- A side-set meaning is its operation, with one draw exactly when the shift amount is negative. -/
theorem runSideset_eq (form : SidesetForm) (n v : Nat) (s : State) :
    runSideset form n v s =
      complete (sidesetResult form n v s.validate s.draws) (s.drawn (decide (K.sidesetTop form < n))) := by
  cases form <;> rfl

theorem not_le_eq_lt (n m : Nat) : (!decide (n ≤ m)) = decide (m < n) := by
  by_cases h : n ≤ m
  · simp [h]
  · simp [h, Nat.lt_of_not_le h]

/-- EVERY STEP OF EVERY INSTRUCTION: its pure result, on the state with a draw counted where the result is a
free value. -/
theorem exec_eq_complete (i : Instr) (s : State) :
    exec i s = complete (result i s.validate s.draws) (s.drawn (!specified i)) := by
  cases i
  case encodeSideset5 n v =>
    rw [specified, not_le_eq_lt]
    exact runSideset_eq .plain n.toNat v.toNat s
  case encodeSidesetOpt4 n v =>
    rw [specified, not_le_eq_lt]
    exact runSideset_eq .optional n.toNat v.toNat s
  all_goals rfl

/-- EVERY INVOCATION: the pure result of the instruction on the input ports, or a refusal by name. The output
ports of the state before play no part. -/
theorem evaluate_eq (s : State) :
    evaluate s = match decode s.inputs with
      | .ok i => complete (result i s.validate s.draws) (s.drawn (!specified i))
      | .error why => .refused (.noSuchRequest why) := by
  unfold evaluate fetch
  cases decode s.inputs with
  | ok i => exact exec_eq_complete i s
  | error why => rfl

/-- What the output ports show of an operation's result, whatever the state (10 R23). -/
@[simp] theorem portView_complete (r : Except Cause Word) (s : State) :
    portView (complete r s) = match r with
      | .ok w => some { word := some w, abort := false, cause := 0 }
      | .error cause => some { word := none, abort := true, cause := causeCode cause } := by
  cases r <;> rfl

/-- The combinational function reads the request, VALIDATE and the draw count, and nothing else (10 R24, R26). -/
theorem State.combinational_congr {s t : State} (hr : s.inputs = t.inputs) (hv : s.validate = t.validate)
    (hd : s.draws = t.draws) : s.combinational = t.combinational := by
  simp only [State.combinational, evaluate_eq, hr, hv, hd]
  cases decode t.inputs with
  | ok i => simp
  | error why => rfl

/-- When a side-set encoder yields a word, and which (49 R101). -/
theorem encodeSideset_eq_ok_iff {v : Bool} {free w : Word} {n x : Nat} :
    encodeSideset v free n x = .ok w ↔ (v = false ∨ (1 ≤ n ∧ n ≤ 5 ∧ x ≤ 2 ^ n - 1)) ∧
      w = if 13 < n then free else trunc16 (x <<< (13 - n)) := by
  unfold encodeSideset
  simp only [bind_eq_ok_iff, require_eq_ok_iff, decide_eq_true_eq, K.sidesetTop]
  by_cases h : 13 < n <;> cases v <;> simp [h, pure, Except.pure, eq_comm, and_assoc]

/-- When a side-set encoder aborts, and with which cause (49 R101). -/
theorem encodeSideset_eq_error_iff {v : Bool} {free : Word} {n x : Nat} {c : Cause} :
    encodeSideset v free n x = .error c ↔ v = true ∧
      ((¬ (1 ≤ n ∧ n ≤ 5) ∧ c = .aSidesetCount) ∨
        (1 ≤ n ∧ n ≤ 5 ∧ ¬ x ≤ 2 ^ n - 1 ∧ c = .aSidesetValue)) := by
  unfold encodeSideset
  simp only [bind_eq_error_iff, require_eq_ok_iff, require_eq_error_iff, decide_eq_true_eq,
    decide_eq_false_iff_not, K.sidesetTop]
  by_cases h : 13 < n <;> cases v <;> simp [h, pure, Except.pure, and_assoc]

/-- When an optional side-set encoder yields a word, and which (49 R102). -/
theorem encodeSidesetOpt_eq_ok_iff {v : Bool} {free w : Word} {n x : Nat} :
    encodeSidesetOpt v free n x = .ok w ↔ (v = false ∨ (1 ≤ n ∧ n ≤ 4 ∧ x ≤ 2 ^ n - 1)) ∧
      w = if 12 < n then free else trunc16 (0x1000 ||| (x <<< (12 - n))) := by
  unfold encodeSidesetOpt
  simp only [bind_eq_ok_iff, require_eq_ok_iff, decide_eq_true_eq, K.sidesetTop, K.sidesetOptEn]
  by_cases h : 12 < n <;> cases v <;> simp [h, pure, Except.pure, eq_comm, and_assoc]

/-- When an optional side-set encoder aborts, and with which cause (49 R102). -/
theorem encodeSidesetOpt_eq_error_iff {v : Bool} {free : Word} {n x : Nat} {c : Cause} :
    encodeSidesetOpt v free n x = .error c ↔ v = true ∧
      ((¬ (1 ≤ n ∧ n ≤ 4) ∧ c = .aSidesetOptCount) ∨
        (1 ≤ n ∧ n ≤ 4 ∧ ¬ x ≤ 2 ^ n - 1 ∧ c = .aSidesetOptValue)) := by
  unfold encodeSidesetOpt
  simp only [bind_eq_error_iff, require_eq_ok_iff, require_eq_error_iff, decide_eq_true_eq,
    decide_eq_false_iff_not, K.sidesetTop]
  by_cases h : 12 < n <;> cases v <;> simp [h, pure, Except.pure, and_assoc]

end Sys2Proof.Machine
end

