-- ==== Sys2Proof/Laws/PerInstr.lean ====
section
/-! SUPPORT. Statements for all instructions, one lemma per constructor. OperationNumber: the request that
names an instruction carries the number of its operation in 10 R21 on the port `op`. -/

/-- The `op` port of the request for `i` holds the number of `i`'s operation (10 R21, R22). -/
def Sys2Proof.Laws.OperationNumber.Statement (i : Sys2Proof.Instr) : Prop :=
  (Sys2Proof.encode i).op.toNat = Sys2Proof.Machine.operationNumber i

open Sys2Proof

theorem Sys2Proof.Laws.OperationNumber.encodeArgsJmp (selector argument : WNum) :
    Sys2Proof.Laws.OperationNumber.Statement (.encodeArgsJmp selector argument) := rfl

theorem Sys2Proof.Laws.OperationNumber.encodeArgsWait (selector argument : WNum) :
    Sys2Proof.Laws.OperationNumber.Statement (.encodeArgsWait selector argument) := rfl

theorem Sys2Proof.Laws.OperationNumber.encodeArgsIn (selector argument : WNum) :
    Sys2Proof.Laws.OperationNumber.Statement (.encodeArgsIn selector argument) := rfl

theorem Sys2Proof.Laws.OperationNumber.encodeArgsOut (selector argument : WNum) :
    Sys2Proof.Laws.OperationNumber.Statement (.encodeArgsOut selector argument) := rfl

theorem Sys2Proof.Laws.OperationNumber.encodeArgsPush (selector argument : WNum) :
    Sys2Proof.Laws.OperationNumber.Statement (.encodeArgsPush selector argument) := rfl

theorem Sys2Proof.Laws.OperationNumber.encodeArgsPull (selector argument : WNum) :
    Sys2Proof.Laws.OperationNumber.Statement (.encodeArgsPull selector argument) := rfl

theorem Sys2Proof.Laws.OperationNumber.encodeArgsMov (selector argument : WNum) :
    Sys2Proof.Laws.OperationNumber.Statement (.encodeArgsMov selector argument) := rfl

theorem Sys2Proof.Laws.OperationNumber.encodeArgsIrq (selector argument : WNum) :
    Sys2Proof.Laws.OperationNumber.Statement (.encodeArgsIrq selector argument) := rfl

theorem Sys2Proof.Laws.OperationNumber.encodeArgsSet (selector argument : WNum) :
    Sys2Proof.Laws.OperationNumber.Statement (.encodeArgsSet selector argument) := rfl

theorem Sys2Proof.Laws.OperationNumber.encodeArgsWithOperandJmp (operand : Operand) (value : WNum) :
    Sys2Proof.Laws.OperationNumber.Statement (.encodeArgsWithOperandJmp operand value) := rfl

theorem Sys2Proof.Laws.OperationNumber.encodeArgsWithOperandWait (operand : Operand) (value : WNum) :
    Sys2Proof.Laws.OperationNumber.Statement (.encodeArgsWithOperandWait operand value) := rfl

theorem Sys2Proof.Laws.OperationNumber.encodeArgsWithOperandIn (operand : Operand) (value : WNum) :
    Sys2Proof.Laws.OperationNumber.Statement (.encodeArgsWithOperandIn operand value) := rfl

theorem Sys2Proof.Laws.OperationNumber.encodeArgsWithOperandOut (operand : Operand) (value : WNum) :
    Sys2Proof.Laws.OperationNumber.Statement (.encodeArgsWithOperandOut operand value) := rfl

theorem Sys2Proof.Laws.OperationNumber.encodeArgsWithOperandPush (operand : Operand) (value : WNum) :
    Sys2Proof.Laws.OperationNumber.Statement (.encodeArgsWithOperandPush operand value) := rfl

theorem Sys2Proof.Laws.OperationNumber.encodeArgsWithOperandPull (operand : Operand) (value : WNum) :
    Sys2Proof.Laws.OperationNumber.Statement (.encodeArgsWithOperandPull operand value) := rfl

theorem Sys2Proof.Laws.OperationNumber.encodeArgsWithOperandMov (operand : Operand) (value : WNum) :
    Sys2Proof.Laws.OperationNumber.Statement (.encodeArgsWithOperandMov operand value) := rfl

theorem Sys2Proof.Laws.OperationNumber.encodeArgsWithOperandIrq (operand : Operand) (value : WNum) :
    Sys2Proof.Laws.OperationNumber.Statement (.encodeArgsWithOperandIrq operand value) := rfl

theorem Sys2Proof.Laws.OperationNumber.encodeArgsWithOperandSet (operand : Operand) (value : WNum) :
    Sys2Proof.Laws.OperationNumber.Statement (.encodeArgsWithOperandSet operand value) := rfl

theorem Sys2Proof.Laws.OperationNumber.encodeJmp (addr : WNum) :
    Sys2Proof.Laws.OperationNumber.Statement (.encodeJmp addr) := rfl

theorem Sys2Proof.Laws.OperationNumber.encodeJmpNotX (addr : WNum) :
    Sys2Proof.Laws.OperationNumber.Statement (.encodeJmpNotX addr) := rfl

theorem Sys2Proof.Laws.OperationNumber.encodeJmpXDec (addr : WNum) :
    Sys2Proof.Laws.OperationNumber.Statement (.encodeJmpXDec addr) := rfl

theorem Sys2Proof.Laws.OperationNumber.encodeJmpNotY (addr : WNum) :
    Sys2Proof.Laws.OperationNumber.Statement (.encodeJmpNotY addr) := rfl

theorem Sys2Proof.Laws.OperationNumber.encodeJmpYDec (addr : WNum) :
    Sys2Proof.Laws.OperationNumber.Statement (.encodeJmpYDec addr) := rfl

theorem Sys2Proof.Laws.OperationNumber.encodeJmpXNeY (addr : WNum) :
    Sys2Proof.Laws.OperationNumber.Statement (.encodeJmpXNeY addr) := rfl

theorem Sys2Proof.Laws.OperationNumber.encodeJmpPin (addr : WNum) :
    Sys2Proof.Laws.OperationNumber.Statement (.encodeJmpPin addr) := rfl

theorem Sys2Proof.Laws.OperationNumber.encodeJmpNotOsre (addr : WNum) :
    Sys2Proof.Laws.OperationNumber.Statement (.encodeJmpNotOsre addr) := rfl

theorem Sys2Proof.Laws.OperationNumber.encodeWaitGpio (polarity : Bool) (gpio : WNum) :
    Sys2Proof.Laws.OperationNumber.Statement (.encodeWaitGpio polarity gpio) := rfl

theorem Sys2Proof.Laws.OperationNumber.encodeWaitPin (polarity : Bool) (pin : WNum) :
    Sys2Proof.Laws.OperationNumber.Statement (.encodeWaitPin polarity pin) := rfl

theorem Sys2Proof.Laws.OperationNumber.encodeWaitIrq (polarity relative : Bool) (irq : WNum) :
    Sys2Proof.Laws.OperationNumber.Statement (.encodeWaitIrq polarity relative irq) := rfl

theorem Sys2Proof.Laws.OperationNumber.encodeIn (src : Operand) (count : WNum) :
    Sys2Proof.Laws.OperationNumber.Statement (.encodeIn src count) := rfl

theorem Sys2Proof.Laws.OperationNumber.encodeOut (dest : Operand) (count : WNum) :
    Sys2Proof.Laws.OperationNumber.Statement (.encodeOut dest count) := rfl

theorem Sys2Proof.Laws.OperationNumber.encodePush (ifFull block : Bool) :
    Sys2Proof.Laws.OperationNumber.Statement (.encodePush ifFull block) := rfl

theorem Sys2Proof.Laws.OperationNumber.encodePull (ifEmpty block : Bool) :
    Sys2Proof.Laws.OperationNumber.Statement (.encodePull ifEmpty block) := rfl

theorem Sys2Proof.Laws.OperationNumber.encodeMov (dest src : Operand) :
    Sys2Proof.Laws.OperationNumber.Statement (.encodeMov dest src) := rfl

theorem Sys2Proof.Laws.OperationNumber.encodeMovNot (dest src : Operand) :
    Sys2Proof.Laws.OperationNumber.Statement (.encodeMovNot dest src) := rfl

theorem Sys2Proof.Laws.OperationNumber.encodeMovReverse (dest src : Operand) :
    Sys2Proof.Laws.OperationNumber.Statement (.encodeMovReverse dest src) := rfl

theorem Sys2Proof.Laws.OperationNumber.encodeNop :
    Sys2Proof.Laws.OperationNumber.Statement .encodeNop := rfl

theorem Sys2Proof.Laws.OperationNumber.encodeIrqSet (relative : Bool) (irq : WNum) :
    Sys2Proof.Laws.OperationNumber.Statement (.encodeIrqSet relative irq) := rfl

theorem Sys2Proof.Laws.OperationNumber.encodeIrqWait (relative : Bool) (irq : WNum) :
    Sys2Proof.Laws.OperationNumber.Statement (.encodeIrqWait relative irq) := rfl

theorem Sys2Proof.Laws.OperationNumber.encodeIrqClear (relative : Bool) (irq : WNum) :
    Sys2Proof.Laws.OperationNumber.Statement (.encodeIrqClear relative irq) := rfl

theorem Sys2Proof.Laws.OperationNumber.encodeSet (dest : Operand) (value : WNum) :
    Sys2Proof.Laws.OperationNumber.Statement (.encodeSet dest value) := rfl

theorem Sys2Proof.Laws.OperationNumber.encodeDelay (cycles : WNum) :
    Sys2Proof.Laws.OperationNumber.Statement (.encodeDelay cycles) := rfl

theorem Sys2Proof.Laws.OperationNumber.encodeSideset1 (value : WNum) :
    Sys2Proof.Laws.OperationNumber.Statement (.encodeSideset1 value) := rfl

theorem Sys2Proof.Laws.OperationNumber.encodeSideset2 (value : WNum) :
    Sys2Proof.Laws.OperationNumber.Statement (.encodeSideset2 value) := rfl

theorem Sys2Proof.Laws.OperationNumber.encodeSideset3 (value : WNum) :
    Sys2Proof.Laws.OperationNumber.Statement (.encodeSideset3 value) := rfl

theorem Sys2Proof.Laws.OperationNumber.encodeSideset4 (value : WNum) :
    Sys2Proof.Laws.OperationNumber.Statement (.encodeSideset4 value) := rfl

theorem Sys2Proof.Laws.OperationNumber.encodeSideset5 (bitCount value : WNum) :
    Sys2Proof.Laws.OperationNumber.Statement (.encodeSideset5 bitCount value) := rfl

theorem Sys2Proof.Laws.OperationNumber.encodeSidesetOpt1 (value : WNum) :
    Sys2Proof.Laws.OperationNumber.Statement (.encodeSidesetOpt1 value) := rfl

theorem Sys2Proof.Laws.OperationNumber.encodeSidesetOpt2 (value : WNum) :
    Sys2Proof.Laws.OperationNumber.Statement (.encodeSidesetOpt2 value) := rfl

theorem Sys2Proof.Laws.OperationNumber.encodeSidesetOpt3 (value : WNum) :
    Sys2Proof.Laws.OperationNumber.Statement (.encodeSidesetOpt3 value) := rfl

theorem Sys2Proof.Laws.OperationNumber.encodeSidesetOpt4 (bitCount value : WNum) :
    Sys2Proof.Laws.OperationNumber.Statement (.encodeSidesetOpt4 bitCount value) := rfl
end

