-- ==== Sys2Proof/Tests/Slice0.lean ====
section
/-! SUPPORT. Tests. The expected words and causes are those of spec/95_test_vectors.md (its vector numbers
stand before each theorem); the words in the decode tests are written out from the patterns of 30 R46. Then one
witness per obligation with hypotheses: a concrete state and operands that meet them, clause by clause. -/

namespace Sys2Proof.Tests

open Sys2Proof Sys2Proof.Machine

/-- The state with VALIDATE 1. -/
def validated : State := { State.reset with valModule := true }

/-- What the output ports show after an invocation, with VALIDATE 1 or 0. -/
def seen (v : Bool) (i : Instr) : Option OutputPorts := portView (exec i (if v then validated else State.reset))

/-- `Word(w)` on the output ports. -/
def word (w : Word) : Option OutputPorts := some { word := some w, abort := false, cause := 0 }

/-- `Abort(c)` on the output ports. -/
def stopped (c : Cause) : Option OutputPorts := some { word := none, abort := true, cause := causeCode c }

/-- A request by its ports. -/
def ports (op : BitVec 5) (cls opdA opdB : BitVec 4) (numA numB : WNum) (flagA flagB : Bool) : Request :=
  { op, cls, opdA, opdB, numA, numB, flagA, flagB }

/-! ## Well-formedness: an ill-formed term for each check -/

theorem test_wf_refuses_sideset_count_with_row :
    ([1, 2, 3, 4].map fun n => (Instr.encodeSideset5 n 0).wellFormed) = [false, false, false, false] := by decide

theorem test_wf_refuses_opt_count_with_row :
    ([1, 2, 3].map fun n => (Instr.encodeSidesetOpt4 n 0).wellFormed) = [false, false, false] := by decide

theorem test_wf_accepts_the_other_counts :
    (Instr.encodeSideset5 0 0).wellFormed = true ∧ (Instr.encodeSideset5 5 31).wellFormed = true ∧
    (Instr.encodeSideset5 6 0).wellFormed = true ∧ (Instr.encodeSidesetOpt4 0 0).wellFormed = true ∧
    (Instr.encodeSidesetOpt4 4 15).wellFormed = true ∧ (Instr.encodeSidesetOpt4 5 0).wellFormed = true := by decide

/-! ## Reading the input ports: every constructor (operation numbers 10 R21, port bindings 10 R22) -/

theorem test_ports_encode_args :
    decode (ports 0 0 9 9 5 17 true true) = .ok (.encodeArgsJmp 5 17) ∧
    decode (ports 0 1 9 9 5 17 true true) = .ok (.encodeArgsWait 5 17) ∧
    decode (ports 0 2 9 9 5 17 true true) = .ok (.encodeArgsIn 5 17) ∧
    decode (ports 0 3 9 9 5 17 true true) = .ok (.encodeArgsOut 5 17) ∧
    decode (ports 0 4 9 9 5 17 true true) = .ok (.encodeArgsPush 5 17) ∧
    decode (ports 0 5 9 9 5 17 true true) = .ok (.encodeArgsPull 5 17) ∧
    decode (ports 0 6 9 9 5 17 true true) = .ok (.encodeArgsMov 5 17) ∧
    decode (ports 0 7 9 9 5 17 true true) = .ok (.encodeArgsIrq 5 17) ∧
    decode (ports 0 8 9 9 5 17 true true) = .ok (.encodeArgsSet 5 17) := by decide

theorem test_ports_encode_args_with_operand :
    decode (ports 1 0 0 9 5 17 true true) = .ok (.encodeArgsWithOperandJmp .pins 17) ∧
    decode (ports 1 1 1 9 5 17 true true) = .ok (.encodeArgsWithOperandWait .x 17) ∧
    decode (ports 1 2 2 9 5 17 true true) = .ok (.encodeArgsWithOperandIn .y 17) ∧
    decode (ports 1 3 3 9 5 17 true true) = .ok (.encodeArgsWithOperandOut .null 17) ∧
    decode (ports 1 4 4 9 5 17 true true) = .ok (.encodeArgsWithOperandPush .pindirs 17) ∧
    decode (ports 1 5 5 9 5 17 true true) = .ok (.encodeArgsWithOperandPull .status 17) ∧
    decode (ports 1 6 6 9 5 17 true true) = .ok (.encodeArgsWithOperandMov .pc 17) ∧
    decode (ports 1 7 7 9 5 17 true true) = .ok (.encodeArgsWithOperandIrq .isr 17) ∧
    decode (ports 1 8 8 9 5 17 true true) = .ok (.encodeArgsWithOperandSet .osr 17) := by decide

theorem test_ports_jmp :
    decode (ports 2 9 9 9 31 0 true true) = .ok (.encodeJmp 31) ∧
    decode (ports 3 9 9 9 31 0 true true) = .ok (.encodeJmpNotX 31) ∧
    decode (ports 4 9 9 9 31 0 true true) = .ok (.encodeJmpXDec 31) ∧
    decode (ports 5 9 9 9 31 0 true true) = .ok (.encodeJmpNotY 31) ∧
    decode (ports 6 9 9 9 31 0 true true) = .ok (.encodeJmpYDec 31) ∧
    decode (ports 7 9 9 9 31 0 true true) = .ok (.encodeJmpXNeY 31) ∧
    decode (ports 8 9 9 9 31 0 true true) = .ok (.encodeJmpPin 31) ∧
    decode (ports 9 9 9 9 31 0 true true) = .ok (.encodeJmpNotOsre 31) := by decide

theorem test_ports_wait_in_out :
    decode (ports 10 9 9 9 3 0 true false) = .ok (.encodeWaitGpio true 3) ∧
    decode (ports 11 9 9 9 3 0 true false) = .ok (.encodeWaitPin true 3) ∧
    decode (ports 12 9 9 9 3 0 true false) = .ok (.encodeWaitIrq true false 3) ∧
    decode (ports 13 9 8 9 3 16 true false) = .ok (.encodeIn .osr 16) ∧
    decode (ports 14 9 6 9 3 16 true false) = .ok (.encodeOut .pc 16) := by decide

theorem test_ports_push_pull_mov :
    decode (ports 15 9 9 9 3 0 true false) = .ok (.encodePush true false) ∧
    decode (ports 16 9 9 9 3 0 false true) = .ok (.encodePull false true) ∧
    decode (ports 17 9 6 5 3 0 false true) = .ok (.encodeMov .pc .status) ∧
    decode (ports 18 9 6 5 3 0 false true) = .ok (.encodeMovNot .pc .status) ∧
    decode (ports 19 9 6 5 3 0 false true) = .ok (.encodeMovReverse .pc .status) ∧
    decode (ports 20 9 9 9 3 0 false true) = .ok .encodeNop := by decide

theorem test_ports_irq_set :
    decode (ports 21 9 9 9 7 0 true false) = .ok (.encodeIrqSet true 7) ∧
    decode (ports 22 9 9 9 7 0 true false) = .ok (.encodeIrqWait true 7) ∧
    decode (ports 23 9 9 9 7 0 true false) = .ok (.encodeIrqClear true 7) ∧
    decode (ports 24 9 4 9 7 1 true false) = .ok (.encodeSet .pindirs 1) := by decide

theorem test_ports_field_encoders :
    decode (ports 25 9 9 9 31 0 true true) = .ok (.encodeDelay 31) ∧
    decode (ports 26 9 9 9 1 1 true true) = .ok (.encodeSideset1 1) ∧
    decode (ports 26 9 9 9 2 3 true true) = .ok (.encodeSideset2 3) ∧
    decode (ports 26 9 9 9 3 5 true true) = .ok (.encodeSideset3 5) ∧
    decode (ports 26 9 9 9 4 15 true true) = .ok (.encodeSideset4 15) ∧
    decode (ports 26 9 9 9 5 31 true true) = .ok (.encodeSideset5 5 31) ∧
    decode (ports 26 9 9 9 14 1 true true) = .ok (.encodeSideset5 14 1) ∧
    decode (ports 27 9 9 9 1 1 true true) = .ok (.encodeSidesetOpt1 1) ∧
    decode (ports 27 9 9 9 2 1 true true) = .ok (.encodeSidesetOpt2 1) ∧
    decode (ports 27 9 9 9 3 5 true true) = .ok (.encodeSidesetOpt3 5) ∧
    decode (ports 27 9 9 9 4 15 true true) = .ok (.encodeSidesetOpt4 4 15) ∧
    decode (ports 27 9 9 9 0 0 true true) = .ok (.encodeSidesetOpt4 0 0) := by decide

/-- 93 U7: codes outside the enumerations. -/
theorem test_ports_refused :
    decode (ports 28 0 0 0 0 0 false false) = .error (.opOutside 28) ∧
    decode (ports 1 9 9 0 0 0 false false) = .error (.classOutside 9) ∧
    decode (ports 13 0 9 0 0 0 false false) = .error (.operandAOutside 9) ∧
    decode (ports 17 0 8 15 0 0 false false) = .error (.operandBOutside 15) := by decide

/-! ## Words written out from the patterns of 30 R46 -/

theorem test_words_core :
    opcodeWord (.encodeArgsJmp 5 17) = 0b0000000010110001 ∧
    opcodeWord (.encodeArgsWait 5 17) = 0b0010000010110001 ∧
    opcodeWord (.encodeArgsIn 5 17) = 0b0100000010110001 ∧
    opcodeWord (.encodeArgsOut 5 17) = 0b0110000010110001 ∧
    opcodeWord (.encodeArgsPush 5 17) = 0b1000000010110001 ∧
    opcodeWord (.encodeArgsPull 1 17) = 0b1000000010110001 ∧
    opcodeWord (.encodeArgsMov 5 17) = 0b1010000010110001 ∧
    opcodeWord (.encodeArgsIrq 5 17) = 0b1100000010110001 ∧
    opcodeWord (.encodeArgsSet 5 17) = 0b1110000010110001 := by decide

theorem test_words_with_operand :
    opcodeWord (.encodeArgsWithOperandJmp .pins 17) = 0b0000000000010001 ∧
    opcodeWord (.encodeArgsWithOperandWait .x 17) = 0b0010000000110001 ∧
    opcodeWord (.encodeArgsWithOperandIn .y 17) = 0b0100000001010001 ∧
    opcodeWord (.encodeArgsWithOperandOut .null 17) = 0b0110000001110001 ∧
    opcodeWord (.encodeArgsWithOperandPush .pindirs 17) = 0b1000000010010001 ∧
    opcodeWord (.encodeArgsWithOperandPull .x 17) = 0b1000000010110001 ∧
    opcodeWord (.encodeArgsWithOperandMov .pc 17) = 0b1010000010110001 ∧
    opcodeWord (.encodeArgsWithOperandIrq .isr 17) = 0b1100000011010001 ∧
    opcodeWord (.encodeArgsWithOperandSet .osr 17) = 0b1110000011110001 := by decide

theorem test_words_read_jmp :
    readWord 0b0000000000000000 = .ok (.encodeJmp 0) ∧
    readWord 0b0000000000000101 = .ok (.encodeJmp 5) ∧
    readWord 0b0000000000100011 = .ok (.encodeJmpNotX 3) ∧
    readWord 0b0000000001000010 = .ok (.encodeJmpXDec 2) ∧
    readWord 0b0000000001111111 = .ok (.encodeJmpNotY 31) ∧
    readWord 0b0000000010000000 = .ok (.encodeJmpYDec 0) ∧
    readWord 0b0000000010110001 = .ok (.encodeJmpXNeY 17) ∧
    readWord 0b0000000011011111 = .ok (.encodeJmpPin 31) ∧
    readWord 0b0000000011111111 = .ok (.encodeJmpNotOsre 31) := by decide

theorem test_words_read_wait_in_out :
    readWord 0b0010000010000011 = .ok (.encodeWaitGpio true 3) ∧
    readWord 0b0010000000100101 = .ok (.encodeWaitPin false 5) ∧
    readWord 0b0010000011000010 = .ok (.encodeWaitIrq true false 2) ∧
    readWord 0b0010000001100000 = .ok (.encodeArgsWait 3 0) ∧
    readWord 0b0100000011110000 = .ok (.encodeIn .osr 16) ∧
    readWord 0b0100000010001000 = .ok (.encodeArgsIn 4 8) ∧
    readWord 0b0110000010100101 = .ok (.encodeOut .pc 5) ∧
    readWord 0b0110000011101000 = .ok (.encodeArgsOut 7 8) := by decide

theorem test_words_read_push_pull_mov :
    readWord 0b1000000001000000 = .ok (.encodePush true false) ∧
    readWord 0b1000000000000001 = .ok (.encodeArgsPush 0 1) ∧
    readWord 0b1000000010100000 = .ok (.encodePull false true) ∧
    readWord 0b1000000010110001 = .ok (.encodeArgsPull 1 17) ∧
    readWord 0b1010000000100010 = .ok (.encodeMov .x .y) ∧
    readWord 0b1010000000101010 = .ok (.encodeMovNot .x .y) ∧
    readWord 0b1010000011010111 = .ok (.encodeMovReverse .isr .osr) ∧
    readWord 0b1010000001000010 = .ok .encodeNop ∧
    readWord 0b1010000000111010 = .ok (.encodeArgsMov 1 26) := by decide

theorem test_words_read_irq_set_fields :
    readWord 0b1100000000010010 = .ok (.encodeIrqSet true 2) ∧
    readWord 0b1100000000110010 = .ok (.encodeIrqWait true 2) ∧
    readWord 0b1100000001000101 = .ok (.encodeIrqClear false 5) ∧
    readWord 0b1100000001100000 = .ok (.encodeArgsIrq 3 0) ∧
    readWord 0b1110000010000001 = .ok (.encodeSet .pindirs 1) ∧
    readWord 0b1110000001111111 = .ok (.encodeArgsSet 3 31) ∧
    readWord 0b0000011100000000 = .ok (.encodeDelay 7) ∧
    readWord 0b0001000000000000 = .ok (.encodeSideset1 1) ∧
    readWord 0b0000100000000000 = .ok (.encodeSideset2 1) ∧
    readWord 0b0000110000000000 = .ok (.encodeSideset3 3) ∧
    readWord 0b0000101000000000 = .ok (.encodeSideset4 5) ∧
    readWord 0b0001100000000000 = .ok (.encodeSidesetOpt1 1) ∧
    readWord 0b0001010000000000 = .ok (.encodeSidesetOpt2 1) ∧
    readWord 0b0001101000000000 = .ok (.encodeSidesetOpt3 5) ∧
    readWord 0b0001111100000000 = .ok (.encodeSidesetOpt4 4 15) ∧
    opcodeWord (.encodeSideset5 5 31) = 0b0001111100000000 := by decide

/-- The host's two definitions, on S1 of spec/95: the word is read, and the next step runs it. -/
theorem test_table_word_runs :
    decodeTableWord 16 0x0005 = some (.encodeJmp 5) ∧ decodeTableWord 16 0x1005 = none ∧
    decodeTableWord 16 0x10000 = none ∧
    portView (step (State.reset.withFetchWord 16 0xC012)) = word 0xC012 ∧
    portView (step (State.reset.withFetchWord 16 0x1005)) = none := by decide

/-! ## One step on small states: the vectors of spec/95 -/

-- A1, A19, A28
theorem test_args_jmp :
    (∀ v, seen v (.encodeArgsJmp 5 17) = word 0x00B1) ∧
    seen true (.encodeArgsJmp 8 0) = stopped .aSelRange ∧
    seen false (.encodeArgsJmp 8 0) = word 0x0100 ∧
    seen true (.encodeArgsJmp 8 32) = stopped .aSelRange := by decide

-- A12, A21, A23
theorem test_args_jmp_argument :
    (∀ v, seen v (.encodeArgsJmp 7 31) = word 0x00FF) ∧
    seen false (.encodeArgsJmp 256 0) = word 0x2000 ∧
    seen true (.encodeArgsJmp 0 32) = stopped .aArgRange ∧
    seen false (.encodeArgsJmp 0 32) = word 0x0000 := by decide

-- A2, A32
theorem test_args_wait :
    (∀ v, seen v (.encodeArgsWait 5 17) = word 0x20B1) ∧
    (∀ v, seen v (.encodeArgsWait 3 0) = word 0x2060) := by decide

-- A3, A24, A25
theorem test_args_in :
    (∀ v, seen v (.encodeArgsIn 5 17) = word 0x40B1) ∧
    (∀ v, seen v (.encodeArgsIn 0 32) = word 0x4000) ∧
    seen true (.encodeArgsIn 0 0) = stopped .aArgRangeInout ∧
    seen false (.encodeArgsIn 0 0) = word 0x4000 := by decide

-- A4, A26, A27
theorem test_args_out :
    (∀ v, seen v (.encodeArgsOut 5 17) = word 0x60B1) ∧
    seen true (.encodeArgsOut 7 40) = stopped .aArgRangeInout ∧
    seen false (.encodeArgsOut 7 40) = word 0x60E8 ∧
    seen true (.encodeArgsOut 7 33) = stopped .aArgRangeInout := by decide

-- A5, A29
theorem test_args_push :
    (∀ v, seen v (.encodeArgsPush 5 17) = word 0x80B1) ∧
    (∀ v, seen v (.encodeArgsPush 0 1) = word 0x8001) := by decide

-- A6, A10, A11
theorem test_args_pull :
    (∀ v, seen v (.encodeArgsPull 5 17) = word 0x80B1) ∧
    (∀ v, seen v (.encodeArgsPull 1 0) = word 0x80A0) ∧
    (∀ v, seen v (.encodeArgsPull 4 0) = word 0x8080) := by decide

-- A7, A30
theorem test_args_mov :
    (∀ v, seen v (.encodeArgsMov 5 17) = word 0xA0B1) ∧
    (∀ v, seen v (.encodeArgsMov 1 26) = word 0xA03A) := by decide

-- A8, A31
theorem test_args_irq :
    (∀ v, seen v (.encodeArgsIrq 5 17) = word 0xC0B1) ∧
    (∀ v, seen v (.encodeArgsIrq 3 0) = word 0xC060) := by decide

-- A9, A15, A20, A22
theorem test_args_set :
    (∀ v, seen v (.encodeArgsSet 5 17) = word 0xE0B1) ∧
    (∀ v, seen v (.encodeArgsSet 7 9) = word 0xE0E9) ∧
    seen true (.encodeArgsSet 256 0) = stopped .aSelRange ∧
    seen false (.encodeArgsSet 256 0) = word 0xE000 ∧
    seen false (.encodeArgsSet 2048 0) = word 0xE000 := by decide

-- A14, A16, A17, A18
theorem test_with_operand :
    (∀ v, seen v (.encodeArgsWithOperandSet .osr 9) = word 0xE0E9) ∧
    (∀ v, seen v (.encodeArgsWithOperandIn .pindirs 8) = word 0x4088) ∧
    (∀ v, seen v (.encodeArgsWithOperandMov .status 0) = word 0xA0A0) ∧
    (∀ v, seen v (.encodeArgsWithOperandMov .pc 0) = word 0xA0A0) := by decide

-- none in spec/95: 41 R66 evaluated by hand
theorem test_with_operand_by_the_formula :
    (∀ v, seen v (.encodeArgsWithOperandJmp .y 31) = word 0x005F) ∧
    (∀ v, seen v (.encodeArgsWithOperandWait .pindirs 1) = word 0x2081) ∧
    (∀ v, seen v (.encodeArgsWithOperandOut .isr 32) = word 0x60C0) ∧
    (∀ v, seen v (.encodeArgsWithOperandPush .x 0) = word 0x8020) ∧
    (∀ v, seen v (.encodeArgsWithOperandPull .x 0) = word 0x80A0) ∧
    (∀ v, seen v (.encodeArgsWithOperandIrq .null 7) = word 0xC067) ∧
    seen true (.encodeArgsWithOperandOut .isr 0) = stopped .aArgRangeInout ∧
    seen true (.encodeArgsWithOperandSet .x 32) = stopped .aArgRange := by decide

-- J1, J2, J10
theorem test_jmp :
    (∀ v, seen v (.encodeJmp 0) = word 0x0000) ∧
    (∀ v, seen v (.encodeJmp 31) = word 0x001F) ∧
    seen true (.encodeJmp 32) = stopped .aArgRange ∧
    seen false (.encodeJmp 32) = word 0x0000 := by decide

-- J3, J4, J12
theorem test_jmp_x :
    (∀ v, seen v (.encodeJmpNotX 3) = word 0x0023) ∧
    (∀ v, seen v (.encodeJmpXDec 2) = word 0x0042) ∧
    seen true (.encodeJmpXDec 4294967295) = stopped .aArgRange ∧
    seen false (.encodeJmpXDec 4294967295) = word 0x005F := by decide

-- J5, J6, J7
theorem test_jmp_y :
    (∀ v, seen v (.encodeJmpNotY 31) = word 0x007F) ∧
    (∀ v, seen v (.encodeJmpYDec 0) = word 0x0080) ∧
    (∀ v, seen v (.encodeJmpXNeY 17) = word 0x00B1) := by decide

-- J8, J9, J11
theorem test_jmp_pin_osre :
    (∀ v, seen v (.encodeJmpPin 31) = word 0x00DF) ∧
    (∀ v, seen v (.encodeJmpNotOsre 31) = word 0x00FF) ∧
    seen true (.encodeJmpNotOsre 37) = stopped .aArgRange ∧
    seen false (.encodeJmpNotOsre 37) = word 0x00E5 := by decide

-- S2, W1, W2, W8
theorem test_wait_gpio :
    (∀ v, seen v (.encodeWaitGpio true 3) = word 0x2083) ∧
    (∀ v, seen v (.encodeWaitGpio false 0) = word 0x2000) ∧
    (∀ v, seen v (.encodeWaitGpio true 31) = word 0x209F) ∧
    seen true (.encodeWaitGpio true 32) = stopped .aArgRange ∧
    seen false (.encodeWaitGpio true 32) = word 0x2080 := by decide

-- W3, W4
theorem test_wait_pin :
    (∀ v, seen v (.encodeWaitPin false 5) = word 0x2025) ∧
    (∀ v, seen v (.encodeWaitPin true 0) = word 0x20A0) := by decide

-- W5, W6, W7
theorem test_wait_irq :
    (∀ v, seen v (.encodeWaitIrq true false 2) = word 0x20C2) ∧
    (∀ v, seen v (.encodeWaitIrq false true 7) = word 0x2057) ∧
    (∀ v, seen v (.encodeWaitIrq true true 0) = word 0x20D0) := by decide

-- W9, W10
theorem test_wait_irq_index :
    seen true (.encodeWaitIrq true true 8) = stopped .aIrqRange ∧
    seen false (.encodeWaitIrq true true 8) = word 0x20D8 ∧
    seen true (.encodeWaitIrq false false 16) = stopped .aIrqRange ∧
    seen false (.encodeWaitIrq false false 16) = word 0x2050 := by decide

-- I1, I3, I4, I5, I14
theorem test_in_count :
    (∀ v, seen v (.encodeIn .pins 1) = word 0x4001) ∧
    (∀ v, seen v (.encodeIn .x 32) = word 0x4020) ∧
    seen true (.encodeIn .pins 0) = stopped .aArgRangeInout ∧
    seen false (.encodeIn .pins 0) = word 0x4000 ∧
    seen true (.encodeIn .pins 33) = stopped .aArgRangeInout ∧
    seen false (.encodeIn .pins 33) = word 0x4001 ∧
    seen false (.encodeIn .y 64) = word 0x4040 := by decide

-- I7, I8, I10, I11, I12, I13
theorem test_in_source :
    (∀ v, seen v (.encodeIn .null 32) = word 0x4060) ∧
    (∀ v, seen v (.encodeIn .osr 16) = word 0x40F0) ∧
    seen true (.encodeIn .pindirs 0) = stopped .aInSrc ∧
    seen false (.encodeIn .pindirs 0) = word 0x4080 ∧
    seen true (.encodeIn .status 1) = stopped .aInSrc ∧
    seen true (.encodeIn .pc 1) = stopped .aInSrc ∧
    seen false (.encodeIn .pc 1) = word 0x40A1 ∧
    (∀ v, seen v (.encodeIn .isr 1) = word 0x40C1) := by decide

-- O1, O3, O4, O5
theorem test_out_count :
    (∀ v, seen v (.encodeOut .pins 1) = word 0x6001) ∧
    (∀ v, seen v (.encodeOut .pindirs 32) = word 0x6080) ∧
    seen true (.encodeOut .pins 0) = stopped .aArgRangeInout ∧
    seen false (.encodeOut .pins 0) = word 0x6000 ∧
    seen true (.encodeOut .pins 33) = stopped .aArgRangeInout ∧
    seen false (.encodeOut .pins 33) = word 0x6001 := by decide

-- O6, O7, O8, O9, O10
theorem test_out_dest :
    (∀ v, seen v (.encodeOut .pc 5) = word 0x60A5) ∧
    seen true (.encodeOut .status 5) = stopped .aOutDest ∧
    seen false (.encodeOut .status 5) = word 0x60A5 ∧
    seen true (.encodeOut .osr 8) = stopped .aOutDest ∧
    seen false (.encodeOut .osr 8) = word 0x60E8 ∧
    (∀ v, seen v (.encodeOut .isr 32) = word 0x60C0) ∧
    (∀ v, seen v (.encodeOut .null 32) = word 0x6060) := by decide

-- PP2, PP3
theorem test_push :
    (∀ v, seen v (.encodePush false true) = word 0x8020) ∧
    (∀ v, seen v (.encodePush true false) = word 0x8040) := by decide

-- PP5, PP6, PP7
theorem test_pull :
    (∀ v, seen v (.encodePull false false) = word 0x8080) ∧
    (∀ v, seen v (.encodePull false true) = word 0x80A0) ∧
    (∀ v, seen v (.encodePull true false) = word 0x80C0) := by decide

-- M3, M4, M5, M8, M9
theorem test_mov_tags :
    (∀ v, seen v (.encodeMov .x .y) = word 0xA022) ∧
    (∀ v, seen v (.encodeMovNot .x .y) = word 0xA02A) ∧
    (∀ v, seen v (.encodeMovReverse .x .y) = word 0xA032) ∧
    (∀ v, seen v (.encodeMovReverse .isr .osr) = word 0xA0D7) ∧
    (∀ v, seen v (.encodeMovNot .osr .osr) = word 0xA0EF) := by decide

-- M6, M7, M10, M13, M14, M16, M17
theorem test_mov_legality :
    (∀ v, seen v (.encodeMov .pins .null) = word 0xA003) ∧
    (∀ v, seen v (.encodeMov .pc .status) = word 0xA0A5) ∧
    seen true (.encodeMov .null .x) = stopped .aMovDest ∧
    seen false (.encodeMov .null .x) = word 0xA061 ∧
    (∀ v, seen v (.encodeMov .pc .x) = word 0xA0A1) ∧
    seen true (.encodeMov .x .pindirs) = stopped .aMovSrc ∧
    seen false (.encodeMov .x .pindirs) = word 0xA024 ∧
    (∀ v, seen v (.encodeMov .x .status) = word 0xA025) ∧
    seen true (.encodeMovReverse .null .pindirs) = stopped .aMovDest ∧
    seen false (.encodeMovReverse .null .pindirs) = word 0xA074 := by decide

-- M1, M2
theorem test_nop :
    (∀ v, seen v .encodeNop = word 0xA042) ∧
    (∀ v, seen v (.encodeMov .y .y) = word 0xA042) := by decide

-- S4, Q2, Q4, Q6
theorem test_irq :
    (∀ v, seen v (.encodeIrqSet true 2) = word 0xC012) ∧
    (∀ v, seen v (.encodeIrqSet false 0) = word 0xC000) ∧
    (∀ v, seen v (.encodeIrqWait true 2) = word 0xC032) ∧
    (∀ v, seen v (.encodeIrqClear false 5) = word 0xC045) := by decide

-- Q8, Q9, Q10, Q11
theorem test_irq_index :
    seen true (.encodeIrqSet false 8) = stopped .aIrqRange ∧
    seen false (.encodeIrqSet false 8) = word 0xC008 ∧
    seen true (.encodeIrqClear true 31) = stopped .aIrqRange ∧
    seen false (.encodeIrqClear true 31) = word 0xC05F ∧
    seen true (.encodeIrqWait false 16) = stopped .aIrqRange ∧
    seen false (.encodeIrqWait false 16) = word 0xC030 ∧
    seen false (.encodeIrqSet false 32) = word 0xC000 := by decide

-- E1, E2, E4, E5
theorem test_set :
    (∀ v, seen v (.encodeSet .pins 0) = word 0xE000) ∧
    (∀ v, seen v (.encodeSet .pindirs 1) = word 0xE081) ∧
    (∀ v, seen v (.encodeSet .y 31) = word 0xE05F) ∧
    seen true (.encodeSet .x 32) = stopped .aArgRange ∧
    seen false (.encodeSet .x 32) = word 0xE020 := by decide

-- E6, E7, E8, E9, E10, E11
theorem test_set_dest :
    seen true (.encodeSet .null 31) = stopped .aSetDest ∧
    seen true (.encodeSet .status 31) = stopped .aSetDest ∧
    seen true (.encodeSet .pc 31) = stopped .aSetDest ∧
    seen true (.encodeSet .isr 31) = stopped .aSetDest ∧
    seen true (.encodeSet .osr 31) = stopped .aSetDest ∧
    seen false (.encodeSet .osr 31) = word 0xE0FF ∧
    seen true (.encodeSet .null 32) = stopped .aSetDest ∧
    seen false (.encodeSet .null 32) = word 0xE060 := by decide

-- F3, F4, F5, F6
theorem test_delay :
    (∀ v, seen v (.encodeDelay 7) = word 0x0700) ∧
    (∀ v, seen v (.encodeDelay 31) = word 0x1F00) ∧
    seen true (.encodeDelay 32) = stopped .aDelayRange ∧
    seen false (.encodeDelay 32) = word 0x2000 ∧
    seen false (.encodeDelay 256) = word 0x0000 := by decide

-- S3, F7, F8, F9, F10, F11
theorem test_sideset :
    (∀ v, seen v (.encodeSideset3 5) = word 0x1400) ∧
    (∀ v, seen v (.encodeSideset1 0) = word 0x0000) ∧
    (∀ v, seen v (.encodeSideset1 1) = word 0x1000) ∧
    (∀ v, seen v (.encodeSideset2 3) = word 0x1800) ∧
    (∀ v, seen v (.encodeSideset4 15) = word 0x1E00) ∧
    (∀ v, seen v (.encodeSideset5 5 31) = word 0x1F00) := by decide

-- F12, F13, F14, F15, F16, F27
theorem test_sideset_out_of_range :
    seen true (.encodeSideset1 2) = stopped .aSidesetValue ∧
    seen false (.encodeSideset1 2) = word 0x2000 ∧
    seen true (.encodeSideset3 8) = stopped .aSidesetValue ∧
    seen false (.encodeSideset3 8) = word 0x2000 ∧
    seen true (.encodeSideset5 0 0) = stopped .aSidesetCount ∧
    seen false (.encodeSideset5 0 0) = word 0x0000 ∧
    seen true (.encodeSideset5 6 63) = stopped .aSidesetCount ∧
    seen false (.encodeSideset5 6 63) = word 0x1F80 ∧
    seen true (.encodeSideset5 14 1) = stopped .aSidesetCount ∧
    seen false (.encodeSideset5 13 1) = word 0x0001 := by decide

-- F17 to F21
theorem test_sideset_opt :
    (∀ v, seen v (.encodeSidesetOpt1 0) = word 0x1000) ∧
    (∀ v, seen v (.encodeSidesetOpt1 1) = word 0x1800) ∧
    (∀ v, seen v (.encodeSidesetOpt2 1) = word 0x1400) ∧
    (∀ v, seen v (.encodeSidesetOpt3 5) = word 0x1A00) ∧
    (∀ v, seen v (.encodeSidesetOpt4 4 15) = word 0x1F00) := by decide

-- F22 to F26, F28
theorem test_sideset_opt_out_of_range :
    seen true (.encodeSidesetOpt1 2) = stopped .aSidesetOptValue ∧
    seen false (.encodeSidesetOpt1 2) = word 0x1000 ∧
    seen true (.encodeSidesetOpt4 4 16) = stopped .aSidesetOptValue ∧
    seen false (.encodeSidesetOpt4 4 16) = word 0x1000 ∧
    seen true (.encodeSidesetOpt4 5 31) = stopped .aSidesetOptCount ∧
    seen false (.encodeSidesetOpt4 5 31) = word 0x1F80 ∧
    seen true (.encodeSidesetOpt4 0 0) = stopped .aSidesetOptCount ∧
    seen false (.encodeSidesetOpt4 0 0) = word 0x1000 ∧
    seen true (.encodeSidesetOpt4 13 1) = stopped .aSidesetOptCount ∧
    seen false (.encodeSidesetOpt4 12 1) = word 0x1001 := by decide

-- G1 to G4: the straps
theorem test_gate :
    portView (exec (.encodeDelay 32) (withStraps State.reset false false false)) = word 0x2000 ∧
    portView (exec (.encodeDelay 32) (withStraps State.reset true false false)) = stopped .aDelayRange ∧
    portView (exec (.encodeDelay 32) (withStraps State.reset false true true)) = word 0x2000 ∧
    portView (exec (.encodeDelay 32) (withStraps State.reset true true true)) = word 0x2000 := by decide

-- F16, F26: UNSPECIFIED16 is a next state with one more draw; nothing is said of its word
theorem test_negative_shift_runs :
    (∃ w, exec (.encodeSideset5 14 1) State.reset = .next { afterWord State.reset w with draws := 1 }) ∧
    (∃ w, exec (.encodeSidesetOpt4 13 1) State.reset = .next { afterWord State.reset w with draws := 1 }) :=
  ⟨⟨_, rfl⟩, ⟨_, rfl⟩⟩

-- 10 R26: the outputs follow the inputs and the straps before any step; S1, J10
theorem test_outputs_follow_the_inputs :
    (State.reset.present (encode (.encodeJmp 5))).outputs = word 0x0005 ∧
    (validated.present (encode (.encodeJmp 32))).outputs = stopped .aArgRange ∧
    (withStraps (validated.present (encode (.encodeJmp 32))) false false false).outputs = word 0x0000 ∧
    (State.reset.present (ports 28 0 0 0 0 0 false false)).outputs = none ∧
    (State.reset.withFetchWord 16 0xA042).outputs = word 0xA042 := by decide

-- an aborting request drives `abort` while it stands, and the step at it is the abort (10 R23, 60 R113)
theorem test_step_at_an_aborting_request :
    step (validated.present (encode (.encodeJmp 32))) = .fault (.abort .aArgRange) := rfl

-- B1 to B6
theorem test_combine :
    combine 0x0005 0x0300 0 = 0x0305 ∧ combine 0xA042 0x1000 0x0100 = 0xB142 ∧
    combine 0x6001 0x1C00 0x0300 = 0x7F01 ∧ combine 0x0000 0x1400 0x0400 = 0x1400 ∧
    combine 0x0000 0x1400 0 = 0x1400 ∧ combine 0x0000 0x0100 0x0200 = 0x0300 := by decide

-- 49 R108, its table
theorem test_usable_delay :
    ([1, 2, 3, 4, 5].map (usableDelay .plain)) = [15, 7, 3, 1, 0] ∧
    ([1, 2, 3, 4].map (usableDelay .optional)) = [7, 3, 1, 0] := by decide

/-! ## Witnesses: states and operands that meet the hypotheses of the obligations, clause by clause. The
witness of a statement bears its name. -/

/-- A `jmp` word on the output ports of `validated`. -/
def afterJmp : State := afterWord validated 0x001F

theorem witness_StepRunsTheRequestOnThePorts :
    decode (State.reset.present (ports 27 0 0 0 0 0 false false)).inputs = .ok (.encodeSidesetOpt4 0 0) ∧
    (Instr.encodeSidesetOpt4 0 0).wellFormed = true := by decide

theorem witness_CodesOutsideTheEnumerationsAreRefused :
    27 < (ports 28 0 0 0 0 0 false false).op.toNat ∧
    ((ports 1 9 9 0 0 0 false false).op.toNat ≤ 1 ∧ 8 < (ports 1 9 9 0 0 0 false false).cls.toNat) ∧
    (¬ 8 < (ports 1 8 9 0 0 0 false false).cls.toNat ∧ 8 < (ports 1 8 9 0 0 0 false false).opdA.toNat) ∧
    (¬ 8 < (ports 19 9 8 9 0 0 false false).opdA.toNat ∧ 8 < (ports 19 9 8 9 0 0 false false).opdB.toNat) ∧
    ((ports 27 15 15 15 0 0 false false).op.toNat ≤ 27 ∧
      decode (ports 27 15 15 15 0 0 false false) = .ok (.encodeSidesetOpt4 0 0)) := by decide

theorem witness_EveryInstructionReadsBackFromThePorts :
    (Instr.encodeSideset5 5 31).wellFormed = true ∧ (Instr.encodeSideset5 0 0).wellFormed = true ∧
    (Instr.encodeSidesetOpt4 4 15).wellFormed = true ∧ (Instr.encodeMov .osr .osr).wellFormed = true := by decide

theorem witness_ReadingTheRequestLosesNoNamedPort :
    decode (ports 1 8 8 0 0 32 false false) = .ok (.encodeArgsWithOperandSet .osr 32) ∧
    decode (ports 26 0 0 0 4 16 false false) = .ok (.encodeSideset4 16) := by decide

theorem witness_UnnamedInputsAreIgnored :
    (ports 20 0 0 0 0 0 false false).op = (ports 20 9 9 9 1 1 true true).op ∧
    (∀ p ∈ namedPorts 20, agreeOn (ports 20 0 0 0 0 0 false false) (ports 20 9 9 9 1 1 true true) p) ∧
    (ports 0 8 0 0 7 31 false false).op = (ports 0 8 15 15 7 31 true true).op ∧
    (∀ p ∈ namedPorts 0, agreeOn (ports 0 8 0 0 7 31 false false) (ports 0 8 15 15 7 31 true true) p) := by
  refine ⟨rfl, by simp [namedPorts], rfl, ?_⟩
  simp [namedPorts, agreeOn, ports]

theorem witness_UnvalidatedNeverAborts :
    State.reset.validate = false ∧ (withStraps State.reset true true true).validate = false ∧
    specified (.encodeSideset5 13 1) = true ∧ specified (.encodeSideset5 14 1) = false := by decide

theorem witness_LegalRequestsYieldOneWordInEveryConfiguration :
    legal (.encodeArgsIn 7 32) = true ∧ legal (.encodeMov .pc .status) = true ∧
    legal (.encodeSideset5 5 31) = true ∧ legal .encodeNop = true := by decide

theorem witness_FirstFailedCheckDecidesTheCause :
    validated.validate = true ∧ firstFailure (.encodeArgsJmp 8 32) = some .aSelRange ∧
    firstFailure (.encodeArgsJmp 7 32) = some .aArgRange ∧ firstFailure (.encodeArgsJmp 7 31) = none := by decide

theorem witness_AbortArisesExactlyFromAFailedCheckWhenValidated :
    exec (.encodeIn .pindirs 0) validated = .fault (.abort .aInSrc) ∧ validated.validate = true ∧
    (false, Cause.aArgRangeInout) ∈ checks (.encodeIn .pindirs 33) := ⟨rfl, rfl, by decide⟩

theorem witness_OutputPortsShowTheOutcome :
    exec (.encodeJmp 31) validated = .next afterJmp ∧
    exec (.encodeJmp 32) validated = .fault (.abort .aArgRange) ∧ State.reset.validate = false := ⟨rfl, rfl, rfl⟩

theorem witness_OutcomeDependsOnlyOnTheRequestAndTheGate :
    validated.validate = (withStraps afterJmp false true false).validate ∧
    specified (.encodeSideset5 13 1) = true ∧ specified (.encodeSideset5 14 1) = false ∧
    validated.draws = (withStraps afterJmp false true false).draws := by decide

theorem witness_EarlierInvocationsDoNotInfluenceLaterOnes :
    step State.reset = .next State.reset ∧
    (∀ i, decode (ports 24 0 3 0 0 31 false false) = .ok i → specified i = true) := by
  refine ⟨rfl, ?_⟩
  rintro _ ⟨⟩
  rfl

theorem witness_RepeatingAnInvocationChangesNothing :
    step (State.reset.present (ports 26 0 0 0 13 1 false false)) =
      .next (afterWord (State.reset.present (ports 26 0 0 0 13 1 false false)) 0x0001) ∧
    (∀ i, decode (State.reset.present (ports 26 0 0 0 13 1 false false)).inputs = .ok i → specified i = true) := by
  refine ⟨rfl, ?_⟩
  rintro _ ⟨⟩
  rfl

theorem witness_NoOperationChangesStrapsOrInputs :
    exec (.encodeSet .pindirs 31) validated = .next (afterWord validated 0xE09F) := rfl

theorem witness_EveryStepLeavesTheOutputsSettled :
    step { validated with inputs := ports 2 0 0 0 31 0 false false } =
      .next (afterWord { validated with inputs := ports 2 0 0 0 31 0 false false } 0x001F) ∧
    decode (ports 2 0 0 0 31 0 false false) = .ok (.encodeJmp 31) ∧ specified (.encodeJmp 31) = true :=
  ⟨rfl, rfl, rfl⟩

theorem witness_OutputsFollowTheInputsAtEveryInstant :
    decode (ports 2 0 0 0 31 0 false false) = .ok (.encodeJmp 31) ∧
    decode (ports 27 0 0 0 13 1 false false) = .ok (.encodeSidesetOpt4 13 1) ∧
    decode (ports 0 9 0 0 0 0 false false) = .error (.classOutside 9) := by decide

theorem witness_EveryInstructionYieldsItsRowOfTheOpcodeMap :
    ((Instr.encodeMov .null .pc).wellFormed = true ∧ inRange (.encodeMov .null .pc) = true ∧
      State.reset.validate = false) ∧
    ((Instr.encodeSideset5 5 31).wellFormed = true ∧ inRange (.encodeSideset5 5 31) = true ∧
      legal (.encodeSideset5 5 31) = true) := by decide

theorem witness_BaseWordsHaveZeroFieldBits :
    instrClass (.encodeArgsPull 7 31) = some .pull ∧ inRange (.encodeArgsPull 7 31) = true ∧
    exec (.encodeArgsPull 7 31) validated = .next (afterWord validated 0x80FF) ∧
    State.reset.validate = false := ⟨rfl, rfl, rfl, rfl⟩

theorem witness_FieldWordsAreZeroOutsideTheField :
    instrClass (.encodeSidesetOpt4 4 15) = none ∧ (Instr.encodeSidesetOpt4 4 15).wellFormed = true ∧
    inRange (.encodeSidesetOpt4 4 15) = true ∧
    exec (.encodeSidesetOpt4 4 15) validated = .next (afterWord validated 0x1F00) := ⟨rfl, rfl, rfl, rfl⟩

theorem witness_WrappersNeverEmitReservedShapes :
    2 ≤ operationNumber (.encodeSet .x 31) ∧ operationNumber (.encodeSet .x 31) ≤ 24 ∧
    inRange (.encodeSet .x 31) = true ∧ validated.validate = true ∧
    exec (.encodeSet .x 31) validated = .next (afterWord validated 0xE03F) := ⟨by decide, by decide, rfl, rfl, rfl⟩

theorem witness_RawPackerEmitsEveryBaseWord : fieldBits 0xE0FF = 0 ∧ fieldBits 0x80FF = 0 := by decide

theorem witness_StatusAndPcAreToldApartOnlyByLegality : State.reset.validate = false := rfl

theorem witness_EncodeArgsPacksTagSelectorArgument :
    State.reset.validate = false ∧ validated.validate = true ∧
    ((7 : WNum).toNat ≤ 7 ∧ 1 ≤ (32 : WNum).toNat ∧ (32 : WNum).toNat ≤ 32) ∧
    ((7 : WNum).toNat ≤ 7 ∧ (31 : WNum).toNat ≤ 31) ∧ 7 < (8 : WNum).toNat ∧
    ¬ (1 ≤ (0 : WNum).toNat ∧ (0 : WNum).toNat ≤ 32) ∧ ¬ (1 ≤ (33 : WNum).toNat ∧ (33 : WNum).toNat ≤ 32) ∧
    ¬ (32 : WNum).toNat ≤ 31 := by decide

theorem witness_CoreWordFields :
    legal (encodeArgsInstr .pull 7 31) = true ∧ legal (encodeArgsInstr .in_ 7 32) = true ∧
    (7 : WNum).toNat ≤ 7 ∧ validated.validate = true := by decide

theorem witness_UnvalidatedCorePacksAnyInput :
    State.reset.validate = false ∧ (2048 : WNum).setWidth 11 = (0 : WNum).setWidth 11 ∧
    (32 : WNum).setWidth 5 = (0 : WNum).setWidth 5 := by decide

theorem witness_WithOperandMasksAndDelegates :
    State.reset.validate = false ∧ validated.validate = true ∧
    (1 ≤ (32 : WNum).toNat ∧ (32 : WNum).toNat ≤ 32) ∧ (31 : WNum).toNat ≤ 31 ∧
    ¬ (1 ≤ (33 : WNum).toNat ∧ (33 : WNum).toNat ≤ 32) ∧ ¬ (32 : WNum).toNat ≤ 31 := by decide

theorem witness_IrqNumberIsFlagAndIndex : 7 < 8 ∧ 7 ≤ 7 := by decide

theorem witness_JmpEncodersPackConditionAndAddress :
    State.reset.validate = false ∧ validated.validate = true ∧ (31 : WNum).toNat ≤ 31 ∧
    31 < (32 : WNum).toNat := by decide

theorem witness_WaitGpioAndPinPackPolarityAndIndex :
    State.reset.validate = false ∧ validated.validate = true ∧ (31 : WNum).toNat ≤ 31 ∧
    31 < (32 : WNum).toNat := by decide

theorem witness_WaitIrqPacksPolarityAndIrqNumber :
    State.reset.validate = false ∧ validated.validate = true ∧ (7 : WNum).toNat ≤ 7 ∧
    7 < (8 : WNum).toNat := by decide

theorem witness_InPacksSourceAndCount :
    State.reset.validate = false ∧ validated.validate = true ∧
    (Operand.osr ∉ [Operand.pindirs, .status, .pc] ∧ 1 ≤ (32 : WNum).toNat ∧ (32 : WNum).toNat ≤ 32) ∧
    Operand.pindirs ∈ [Operand.pindirs, .status, .pc] ∧ (0 : WNum) = 0 ∧ 32 < (33 : WNum).toNat := by decide

theorem witness_OutPacksDestinationAndCount :
    State.reset.validate = false ∧ validated.validate = true ∧
    (Operand.pc ∉ [Operand.status, .osr] ∧ 1 ≤ (32 : WNum).toNat ∧ (32 : WNum).toNat ≤ 32) ∧
    Operand.osr ∈ [Operand.status, .osr] ∧ (0 : WNum) = 0 ∧ 32 < (33 : WNum).toNat := by decide

theorem witness_InOutCountWrapsThirtyTwoToZero :
    validated.validate = true ∧ State.reset.validate = false ∧ K.forbid .pins .inSrc = false ∧
    K.forbid .pins .outDest = false := by decide

theorem witness_MovEncodersPackDestinationTagSource :
    State.reset.validate = false ∧ validated.validate = true ∧
    (Operand.pc ∉ [Operand.null, .pindirs, .status] ∧ Operand.status ∉ [Operand.pindirs, .pc]) ∧
    Operand.null ∈ [Operand.null, .pindirs, .status] ∧ Operand.pindirs ∈ [Operand.pindirs, .pc] := by decide

theorem witness_IrqEncodersPackSubOpcodeAndIrqNumber :
    State.reset.validate = false ∧ validated.validate = true ∧ (7 : WNum).toNat ≤ 7 ∧
    7 < (8 : WNum).toNat := by decide

theorem witness_SetPacksDestinationAndValue :
    State.reset.validate = false ∧ validated.validate = true ∧
    (Operand.pindirs ∈ [Operand.pins, .x, .y, .pindirs] ∧ (31 : WNum).toNat ≤ 31) ∧
    Operand.null ∉ [Operand.pins, .x, .y, .pindirs] ∧ 31 < (32 : WNum).toNat := by decide

theorem witness_DelayShiftsByEightAndRoundTrips :
    State.reset.validate = false ∧ validated.validate = true ∧ (31 : WNum).toNat ≤ 31 ∧
    31 < (32 : WNum).toNat ∧ exec (.encodeDelay 31) validated = .next (afterWord validated 0x1F00) :=
  ⟨rfl, rfl, by decide, by decide, rfl⟩

theorem witness_SidesetPlacesTheValueLeftAligned :
    (State.reset.validate = false ∧ (13 : WNum).toNat ≤ 13) ∧ validated.validate = true ∧
    (1 ≤ (5 : WNum).toNat ∧ (5 : WNum).toNat ≤ 5 ∧ (31 : WNum).toNat < 2 ^ (5 : WNum).toNat) ∧
    ((0 : WNum) = 0 ∧ 5 < (6 : WNum).toNat) ∧ 2 ^ (5 : WNum).toNat ≤ (32 : WNum).toNat ∧
    (1 ≤ (1 : WNum).toNat ∧ 2 ^ (1 : WNum).toNat ≤ (2 : WNum).toNat) := by decide

theorem witness_OptionalSidesetSetsTheFlagAndPlacesTheValue :
    (State.reset.validate = false ∧ (12 : WNum).toNat ≤ 12) ∧ validated.validate = true ∧
    (1 ≤ (4 : WNum).toNat ∧ (4 : WNum).toNat ≤ 4 ∧ (15 : WNum).toNat < 2 ^ (4 : WNum).toNat) ∧
    ((0 : WNum) = 0 ∧ 4 < (5 : WNum).toNat) ∧ 2 ^ (4 : WNum).toNat ≤ (16 : WNum).toNat ∧
    (1 ≤ (1 : WNum).toNat ∧ 2 ^ (1 : WNum).toNat ≤ (2 : WNum).toNat) := by decide

theorem witness_NegativeShiftYieldsAFreeWord :
    13 < (14 : WNum).toNat ∧ 12 < (13 : WNum).toNat ∧ State.reset.validate = false ∧
    validated.validate = true := by decide

theorem witness_SidesetValuePositions :
    (1 ≤ (1 : WNum).toNat ∧ (1 : WNum).toNat < 2 ^ (1 : WNum).toNat) ∧
    ((5 : WNum).toNat ≤ 5 ∧ (31 : WNum).toNat < 2 ^ (5 : WNum).toNat) ∧
    ((4 : WNum).toNat ≤ 4 ∧ (15 : WNum).toNat < 2 ^ (4 : WNum).toNat) := by decide

theorem witness_OnlyTheOptionalFormSetsBitTwelveAsAFlag :
    ((12 : WNum).toNat ≤ 12 ∧ exec (sidesetOptInstr 12 1) State.reset = .next (afterWord State.reset 0x1001)) ∧
    (1 ≤ (1 : WNum).toNat ∧ (1 : WNum).toNat < 2 ^ (1 : WNum).toNat) ∧
    ((5 : WNum).toNat ≤ 5 ∧ (15 : WNum).toNat < 2 ^ (5 : WNum).toNat) ∧ (4 : WNum).toNat ≤ 4 :=
  ⟨⟨by decide, rfl⟩, by decide, by decide, by decide⟩

theorem witness_CombiningKeepsTheBaseFields :
    (instrClass .encodeNop = some .mov ∧ instrClass (.encodeSideset1 1) = none ∧
      instrClass (.encodeDelay 1) = none) ∧
    ((Instr.encodeSideset1 1).wellFormed = true ∧ (Instr.encodeDelay 1).wellFormed = true) ∧
    (inRange .encodeNop = true ∧ inRange (.encodeSideset1 1) = true ∧ inRange (.encodeDelay 1) = true) ∧
    exec .encodeNop validated = .next (afterWord validated 0xA042) ∧
    exec (.encodeSideset1 1) validated = .next (afterWord validated 0x1000) ∧
    exec (.encodeDelay 1) validated = .next (afterWord validated 0x0100) :=
  ⟨⟨rfl, rfl, rfl⟩, ⟨rfl, rfl⟩, ⟨rfl, rfl, rfl⟩, rfl, rfl, rfl⟩

theorem witness_DelayWithinTheBoundDoesNotOverlapSideset :
    ((7 : WNum).toNat ≤ 31 ∧ exec (.encodeDelay 7) validated = .next (afterWord validated 0x0700) ∧
      (3 : WNum).toNat < 2 ^ (2 : WNum).toNat) ∧
    ((7 : WNum).toNat ≤ usableDelay .plain 2 ∧ usableDelay .plain 3 < (7 : WNum).toNat ∧
      (7 : WNum).toNat = 2 ^ (3 : WNum).toNat - 1) ∧
    ((7 : WNum).toNat ≤ usableDelay .optional 1 ∧ usableDelay .optional 2 < (7 : WNum).toNat ∧
      (3 : WNum).toNat = 2 ^ (2 : WNum).toNat - 1) :=
  ⟨⟨by decide, rfl, by decide⟩, by decide, by decide⟩

theorem witness_TwoDelaysCombineToTheOrOfTheirCounts :
    (31 : WNum).toNat ≤ 31 ∧ (0 : WNum).toNat ≤ 31 ∧ fieldBits 0xE0FF = 0 := by decide

theorem witness_DistinctRequestsYieldOneWord :
    State.reset.validate = false ∧ (3 : WNum).toNat ≤ 3 ∧ (31 : WNum).toNat ≤ 31 ∧
    (1 ≤ (1 : WNum).toNat ∧ (5 : WNum).toNat ≤ 5) := by decide

theorem witness_ReadWordsEncodeBack :
    readWord 0xFFFF = .error (.fieldBitsOnBase 0xFFFF) ∧ readWord 0xE0FF = .ok (.encodeArgsSet 7 31) ∧
    readWord 0x1F00 = .ok (.encodeSidesetOpt4 4 15) := by decide

theorem witness_EveryEmittedWordIsRead :
    ((Instr.encodeIn .pc 32).wellFormed = true ∧ inRange (.encodeIn .pc 32) = true ∧
      exec (.encodeIn .pc 32) State.reset = .next (afterWord State.reset 0x40A0)) ∧
    fieldBits 0x40A0 = 0 ∧ (majorBits 0x1F00 = 0 ∧ selectorBits 0x1F00 = 0 ∧ argumentBits 0x1F00 = 0) ∧
    (fieldBits 0x9FA0 ≠ 0 ∧ ¬ (majorBits 0x9FA0 = 0 ∧ selectorBits 0x9FA0 = 0 ∧ argumentBits 0x9FA0 = 0)) :=
  ⟨⟨rfl, rfl, rfl⟩, by decide, by decide, by decide⟩

theorem witness_StepRunsThePresentedTableWord :
    decodeTableWord 16 0xA042 = some .encodeNop ∧ decodeTableWord 16 0x1F00 = some (.encodeSidesetOpt4 4 15) := by
  decide


end Sys2Proof.Tests
end

section
/-! The validation gate (10 R17). -/

namespace Sys2Proof.Machine

/-- The output ports after an instruction depend on the state only through VALIDATE and the draw count:
no operation reads a strap, an input port or an output port on its own (10 R17, R24). -/
theorem portView_exec_congr (i : Instr) {s t : State} (hv : s.validate = t.validate)
    (hd : s.draws = t.draws) : portView (exec i s) = portView (exec i t) := by
  rw [exec_eq_complete, exec_eq_complete, hv, hd, portView_complete, portView_complete]

/-- The gate's value, given by `VAL_MODULE` alone, passes the gate unchanged (10 R17). -/
theorem withStraps_gate_validate (s : State) (m e d : Bool) :
    (withStraps s m e d).validate = (withStraps s ((m || e) && !d) false false).validate := by
  simp only [withStraps_validate, Bool.or_false, Bool.not_false, Bool.and_true]

/-- Settles O6: the formula is the gate's definition, the eight rows are its values, and two strap settings
with the same gate give the same ports. -/
theorem theGateFollowsItsTableAndAloneIsConsulted :
    Obligations.TheGateFollowsItsTableAndAloneIsConsulted := by
  intro s
  refine ⟨rfl, ?truthTable, ?onlyTheGate⟩
  case truthTable => simp only [withStraps_validate]; decide
  case onlyTheGate =>
    intro i m e d
    exact portView_exec_congr i (withStraps_gate_validate s m e d) rfl

end Sys2Proof.Machine
end

section
/-! Instructions by families: the parametrised forms in which requests are read (10 R21) cover every well-formed
instruction, and `result` and `checks` have one equation per family. Then when an operation yields a word. -/

namespace Sys2Proof.Machine

/-! ## The families -/

/-- A well-formed term that carries its bit count is its family's form: no other row has that count (entry 6). -/
theorem sidesetInstr_of_wellFormed {n e : WNum} (h : (Instr.encodeSideset5 n e).wellFormed = true) :
    sidesetInstr n e = .encodeSideset5 n e := by
  have h : n = 0 ∨ 5 ≤ n.toNat := of_decide_eq_true h
  unfold sidesetInstr
  split_ifs <;> simp_all

/-- As `sidesetInstr_of_wellFormed`, for the optional form. -/
theorem sidesetOptInstr_of_wellFormed {n e : WNum} (h : (Instr.encodeSidesetOpt4 n e).wellFormed = true) :
    sidesetOptInstr n e = .encodeSidesetOpt4 n e := by
  have h : n = 0 ∨ 4 ≤ n.toNat := of_decide_eq_true h
  unfold sidesetOptInstr
  split_ifs <;> simp_all

/-- Case analysis by family in place of the 51 rows: one case for each operation that is not a mere choice of
class, condition, tag, sub-opcode or bit count. -/
theorem wellFormed_cases {P : (i : Instr) → i.wellFormed = true → Prop}
    (args : ∀ c k g h, P (encodeArgsInstr c k g) h)
    (withOperand : ∀ c o g h, P (encodeArgsWithOperandInstr c o g) h)
    (jmp : ∀ c a h, P (jmpInstr c a) h)
    (waitGpio : ∀ p x h, P (.encodeWaitGpio p x) h)
    (waitPin : ∀ p x h, P (.encodeWaitPin p x) h)
    (waitIrq : ∀ p r n h, P (.encodeWaitIrq p r n) h)
    (in_ : ∀ o c h, P (.encodeIn o c) h)
    (out : ∀ o c h, P (.encodeOut o c) h)
    (push : ∀ f b h, P (.encodePush f b) h)
    (pull : ∀ f b h, P (.encodePull f b) h)
    (mov : ∀ op d o h, P (movInstr op d o) h)
    (nop : ∀ h, P .encodeNop h)
    (irq : ∀ sub r n h, P (irqInstr sub r n) h)
    (set : ∀ o x h, P (.encodeSet o x) h)
    (delay : ∀ c h, P (.encodeDelay c) h)
    (sideset : ∀ n e h, P (sidesetInstr n e) h)
    (sidesetOpt : ∀ n e h, P (sidesetOptInstr n e) h)
    (i : Instr) (hwf : i.wellFormed = true) : P i hwf := by
  cases i
  case encodeArgsJmp k g => exact args .jmp k g hwf
  case encodeArgsWait k g => exact args .wait k g hwf
  case encodeArgsIn k g => exact args .in_ k g hwf
  case encodeArgsOut k g => exact args .out k g hwf
  case encodeArgsPush k g => exact args .push k g hwf
  case encodeArgsPull k g => exact args .pull k g hwf
  case encodeArgsMov k g => exact args .mov k g hwf
  case encodeArgsIrq k g => exact args .irq k g hwf
  case encodeArgsSet k g => exact args .set k g hwf
  case encodeArgsWithOperandJmp o g => exact withOperand .jmp o g hwf
  case encodeArgsWithOperandWait o g => exact withOperand .wait o g hwf
  case encodeArgsWithOperandIn o g => exact withOperand .in_ o g hwf
  case encodeArgsWithOperandOut o g => exact withOperand .out o g hwf
  case encodeArgsWithOperandPush o g => exact withOperand .push o g hwf
  case encodeArgsWithOperandPull o g => exact withOperand .pull o g hwf
  case encodeArgsWithOperandMov o g => exact withOperand .mov o g hwf
  case encodeArgsWithOperandIrq o g => exact withOperand .irq o g hwf
  case encodeArgsWithOperandSet o g => exact withOperand .set o g hwf
  case encodeJmp a => exact jmp .always a hwf
  case encodeJmpNotX a => exact jmp .notX a hwf
  case encodeJmpXDec a => exact jmp .xDec a hwf
  case encodeJmpNotY a => exact jmp .notY a hwf
  case encodeJmpYDec a => exact jmp .yDec a hwf
  case encodeJmpXNeY a => exact jmp .xNeY a hwf
  case encodeJmpPin a => exact jmp .pin a hwf
  case encodeJmpNotOsre a => exact jmp .notOsre a hwf
  case encodeWaitGpio p x => exact waitGpio p x hwf
  case encodeWaitPin p x => exact waitPin p x hwf
  case encodeWaitIrq p r n => exact waitIrq p r n hwf
  case encodeIn o c => exact in_ o c hwf
  case encodeOut o c => exact out o c hwf
  case encodePush f b => exact push f b hwf
  case encodePull f b => exact pull f b hwf
  case encodeMov d o => exact mov .none d o hwf
  case encodeMovNot d o => exact mov .not d o hwf
  case encodeMovReverse d o => exact mov .reverse d o hwf
  case encodeNop => exact nop hwf
  case encodeIrqSet r n => exact irq .set r n hwf
  case encodeIrqWait r n => exact irq .wait r n hwf
  case encodeIrqClear r n => exact irq .clear r n hwf
  case encodeSet o x => exact set o x hwf
  case encodeDelay c => exact delay c hwf
  case encodeSideset1 e => exact sideset 1 e hwf
  case encodeSideset2 e => exact sideset 2 e hwf
  case encodeSideset3 e => exact sideset 3 e hwf
  case encodeSideset4 e => exact sideset 4 e hwf
  case encodeSideset5 n e =>
    have key := sideset n e
    rw [sidesetInstr_of_wellFormed hwf] at key
    exact key hwf
  case encodeSidesetOpt1 e => exact sidesetOpt 1 e hwf
  case encodeSidesetOpt2 e => exact sidesetOpt 2 e hwf
  case encodeSidesetOpt3 e => exact sidesetOpt 3 e hwf
  case encodeSidesetOpt4 n e =>
    have key := sidesetOpt n e
    rw [sidesetOptInstr_of_wellFormed hwf] at key
    exact key hwf

/-! ## One equation per family -/

section
variable (c : OpClass) (k g a n e : WNum) (o d : Operand) (cond : JmpCond) (op : MovOp) (sub : IrqSub) (r v : Bool)
  (draws : Nat)

@[simp] theorem result_encodeArgsInstr :
    result (encodeArgsInstr c k g) v draws = encodeArgs v c k.toNat g.toNat := by cases c <;> rfl
@[simp] theorem result_encodeArgsWithOperandInstr :
    result (encodeArgsWithOperandInstr c o g) v draws = encodeArgsWithOperand v c o g.toNat := by cases c <;> rfl
@[simp] theorem result_jmpInstr :
    result (jmpInstr cond a) v draws = encodeArgs v .jmp (K.jmpCond cond) a.toNat := by cases cond <;> rfl
@[simp] theorem result_movInstr : result (movInstr op d o) v draws = encodeMov v op d o := by cases op <;> rfl
@[simp] theorem result_irqInstr : result (irqInstr sub r n) v draws = encodeIrq v sub r n.toNat := by
  cases sub <;> rfl
@[simp] theorem result_sidesetInstr :
    result (sidesetInstr n e) v draws = sidesetResult .plain n.toNat e.toNat v draws := by
  unfold sidesetInstr
  split_ifs <;> subst_vars <;> rfl
@[simp] theorem result_sidesetOptInstr :
    result (sidesetOptInstr n e) v draws = sidesetResult .optional n.toNat e.toNat v draws := by
  unfold sidesetOptInstr
  split_ifs <;> subst_vars <;> rfl

@[simp] theorem checks_encodeArgsInstr : checks (encodeArgsInstr c k g) = coreChecks c k g := by cases c <;> rfl
@[simp] theorem checks_encodeArgsWithOperandInstr :
    checks (encodeArgsWithOperandInstr c o g) = [argumentCheck c g] := by cases c <;> rfl
@[simp] theorem checks_jmpInstr : checks (jmpInstr cond a) = [argumentCheck .jmp a] := by cases cond <;> rfl
@[simp] theorem checks_movInstr : checks (movInstr op d o) = movChecks d o := by cases op <;> rfl
@[simp] theorem checks_irqInstr : checks (irqInstr sub r n) = irqCheck n := by cases sub <;> rfl
@[simp] theorem checks_sidesetInstr : checks (sidesetInstr n e) = sidesetChecks n.toNat e.toNat := by
  unfold sidesetInstr
  split_ifs <;> subst_vars <;> rfl
@[simp] theorem checks_sidesetOptInstr : checks (sidesetOptInstr n e) = sidesetOptChecks n.toNat e.toNat := by
  unfold sidesetOptInstr
  split_ifs <;> subst_vars <;> rfl
end

/-- The check of the core's argument, as the range that the core itself requires (41 R64). -/
theorem argumentCheck_fst (c : OpClass) (g : WNum) :
    (argumentCheck c g).1 = true ↔ argumentInRange c g.toNat := by
  cases c <;> simp [argumentCheck, argumentInRange]

/-- A raw request is legal exactly when both its numbers are in range. -/
theorem legal_encodeArgsInstr_iff (c : OpClass) (k g : WNum) :
    legal (encodeArgsInstr c k g) = true ↔ k.toNat ≤ 7 ∧ argumentInRange c g.toNat := by
  simp [legal, coreChecks, argumentCheck_fst]

/-- An in-range raw request has a selector that fits its field. -/
theorem selector_le_of_inRange {c : OpClass} {k g : WNum} (hr : inRange (encodeArgsInstr c k g) = true) :
    k.toNat ≤ 7 := by
  simp only [inRange, checks_encodeArgsInstr, coreChecks, List.all_cons, Bool.and_eq_true, isOperandCause,
    Bool.or_false, decide_eq_true_eq] at hr
  exact hr.1

theorem ppSelector_le_seven (f b : Bool) : ppSelector f b ≤ 7 := (ppSelector_le f b).trans (by decide)

/-- A legal request is in range: it fails no check, of whatever kind. -/
theorem inRange_of_legal {i : Instr} (h : legal i = true) : inRange i = true := by
  simp only [legal, inRange, List.all_eq_true, Bool.or_eq_true] at h ⊢
  exact fun c hc => .inl (h c hc)

/-- In range no shift amount is negative, so no result is a free value (49 R105). -/
theorem specified_of_inRange {i : Instr} (hr : inRange i = true) : specified i = true := by
  cases i
  case encodeSideset5 n e =>
    have hn : (1 ≤ n.toNat ∧ n.toNat ≤ 5) ∧ e.toNat ≤ 2 ^ n.toNat - 1 := by
      simpa [inRange, checks, sidesetChecks, isOperandCause] using hr
    exact decide_eq_true (by omega)
  case encodeSidesetOpt4 n e =>
    have hn : (1 ≤ n.toNat ∧ n.toNat ≤ 4) ∧ e.toNat ≤ 2 ^ n.toNat - 1 := by
      simpa [inRange, checks, sidesetOptChecks, isOperandCause] using hr
    exact decide_eq_true (by omega)
  all_goals rfl

/-! ## When an operation yields a word -/

/-- An operation yields a word exactly when nothing is checked or every check holds (10 R18, 60 R109). -/
theorem exists_result_ok_iff {i : Instr} (v : Bool) (draws : Nat) (hwf : i.wellFormed = true) :
    (∃ w, result i v draws = .ok w) ↔ v = false ∨ legal i = true := by
  unfold legal
  induction i, hwf using wellFormed_cases with
  | args c k g => simp [encodeArgs_eq_ok_iff, coreChecks, argumentCheck_fst]
  | withOperand c o g => simp [encodeArgsWithOperand_eq_ok_iff, argumentCheck_fst]
  | jmp c a => simp [encodeArgs_eq_ok_iff, jmpCond_le, argumentCheck_fst]
  | waitGpio p x => simp [result, checks, encodeArgs_eq_ok_iff, waitSelector_le, argumentCheck_fst]
  | waitPin p x => simp [result, checks, encodeArgs_eq_ok_iff, waitSelector_le, argumentCheck_fst]
  | waitIrq p r n => simp [result, checks, encodeWaitIrq_eq_ok_iff, irqCheck]
  | in_ o c => simp [result, checks, encodeIn_eq_ok_iff, argumentCheck]
  | out o c => simp [result, checks, encodeOut_eq_ok_iff, argumentCheck]
  | push f b => simp [result, checks, encodeArgs_eq_ok_iff, ppSelector_le_seven, argumentInRange]
  | pull f b => simp [result, checks, encodeArgs_eq_ok_iff, ppSelector_le_seven, argumentInRange]
  | mov op d o => simp [encodeMov_eq_ok_iff, movChecks]
  | nop => simp [result, checks, encodeMov_eq_ok_iff, K.forbid]
  | irq sub r n => simp [encodeIrq_eq_ok_iff, irqCheck]
  | set o x => simp [result, checks, encodeSet_eq_ok_iff, argumentCheck]
  | delay c => simp [result, checks, encodeDelay_eq_ok_iff]
  | sideset n e => simp [sidesetResult, encodeSideset_eq_ok_iff, sidesetChecks, and_assoc]
  | sidesetOpt n e => simp [sidesetResult, encodeSidesetOpt_eq_ok_iff, sidesetOptChecks, and_assoc]

/-- An invocation whose result is specified is its pure result, with nothing drawn. -/
theorem exec_eq_complete_of_specified {i : Instr} (s : State) (h : specified i = true) :
    exec i s = complete (result i s.validate s.draws) s := by
  rw [exec_eq_complete, h, Bool.not_true, State.drawn_false]

/-- The word that an invocation drives is the word of its pure result. -/
theorem result_eq_ok_of_exec {i : Instr} {s : State} {w : Word} (h : exec i s = .next (afterWord s w)) :
    result i s.validate s.draws = .ok w := by
  rw [exec_eq_complete, complete_eq_next_iff] at h
  obtain ⟨w', hw', hs⟩ := h
  have hww' : w = w' := by simpa using congrArg State.outputs hs
  rw [hw', hww']

end Sys2Proof.Machine
end

section
/-! Words by their fields: base words and field words as concatenations, the packing formulas on them, and the
opcode map (30 R46) with one equation per family. -/

namespace Sys2Proof.Machine

/-! ## Base words -/

/-- OR works field by field. -/
theorem baseWord_or (m m' s s' : BitVec 3) (g g' : BitVec 5) :
    baseWord m s g ||| baseWord m' s' g' = baseWord (m ||| m') (s ||| s') (g ||| g') := by
  change (m ++ 0#5 ++ s ++ g : BitVec (3 + 5 + 3 + 5)) ||| (m' ++ 0#5 ++ s' ++ g') = _
  simp only [BitVec.or_append, BitVec.or_self, baseWord]

@[simp] theorem majorBits_baseWord (m s : BitVec 3) (g : BitVec 5) : majorBits (baseWord m s g) = m := by
  change BitVec.extractLsb' (n := 3 + 5 + 3 + 5) 13 3 (m ++ 0#5 ++ s ++ g) = m
  rw [BitVec.extractLsb'_append_eq_of_le (by decide), BitVec.extractLsb'_append_eq_of_le (by decide)]
  exact BitVec.extractLsb'_append_eq_left

@[simp] theorem fieldBits_baseWord (m s : BitVec 3) (g : BitVec 5) : fieldBits (baseWord m s g) = 0 := by
  change BitVec.extractLsb' (n := 3 + 5 + 3 + 5) 8 5 (m ++ 0#5 ++ s ++ g) = 0
  rw [BitVec.extractLsb'_append_eq_of_le (by decide), BitVec.extractLsb'_append_eq_of_le (by decide)]
  exact BitVec.extractLsb'_append_eq_right

/-- A word with zero field bits is the base word of its other three fields (30 R37). -/
theorem eq_baseWord_of_fieldBits_eq_zero {w : Word} (h : fieldBits w = 0) :
    w = baseWord (majorBits w) (selectorBits w) (argumentBits w) := by
  have h : 0#5 = fieldBits w := h.symm
  simp only [baseWord, h, majorBits, fieldBits, selectorBits, argumentBits,
    BitVec.extractLsb'_append_extractLsb'_eq_extractLsb']
  simp

theorem tag_eq_baseWord (c : OpClass) : K.tag c = baseWord (majorBits (K.tag c)) (selectorBits (K.tag c)) 0 := by
  cases c <;> rfl

theorem selectorBits_tag (c : OpClass) : selectorBits (K.tag c) = if c = .pull then 4 else 0 := by
  cases c <;> rfl

theorem trunc16_shiftLeft_five_eq_baseWord {k : Nat} (h : k ≤ 7) :
    trunc16 k <<< 5 = baseWord 0 (BitVec.ofNat 3 k) 0 := by
  interval_cases k <;> rfl

theorem trunc16_mod_eq_baseWord (g : Nat) : trunc16 (g % 32) = baseWord 0 0 (BitVec.ofNat 5 g) := by
  have h : BitVec.ofNat 5 g = BitVec.ofNat 5 (g % 32) := by
    apply BitVec.eq_of_toNat_eq
    simp
  have ha : g % 32 < 32 := Nat.mod_lt _ (by decide)
  rw [h]
  generalize g % 32 = a at ha
  interval_cases a <;> rfl

/-- PULL's tag puts a 1 above the two selector bits that are left (30 R39). -/
theorem four_or_eq_append : ∀ x : BitVec 3, 4#3 ||| x = 1#1 ++ x.setWidth 2 := by decide

/-- The base word of a class: its major value, and the selector as the class shows it; PULL's tag holds the top
selector bit at 1 (30 R39, R46). -/
def classWord (c : OpClass) (selector : BitVec 3) (argument : BitVec 5) : Word :=
  baseWord (majorBits (K.tag c)) (if c = .pull then 1#1 ++ selector.setWidth 2 else selector) argument

/-- While the selector fits its field, the packing formula builds the base word of the class (30 R45, 41 R63). -/
theorem pack_eq_classWord {c : OpClass} {k : Nat} (g : Nat) (h : k ≤ 7) :
    pack c k g = classWord c (BitVec.ofNat 3 k) (BitVec.ofNat 5 g) := by
  rw [pack_eq, trunc16_shiftLeft_five_eq_baseWord h, trunc16_mod_eq_baseWord, tag_eq_baseWord c, baseWord_or,
    baseWord_or, selectorBits_tag, classWord]
  split_ifs <;> simp [four_or_eq_append]

/-! ## Field words -/

theorem trunc16_shiftLeft_eight_eq_fieldWord {c : Nat} (h : c ≤ 31) :
    trunc16 (c <<< 8) = fieldWord (BitVec.ofNat 5 c) := by
  interval_cases c <;> rfl

/-- A value shifted left stands above as many zeros. -/
theorem ofNat_shiftLeft_eq_append (n m v : Nat) :
    BitVec.ofNat (n + m) (v <<< m) = BitVec.ofNat n v ++ 0#m := by
  apply BitVec.eq_of_toNat_eq
  simp [BitVec.toNat_append, Nat.shiftLeft_eq, Nat.pow_add, Nat.mul_mod_mul_right]

theorem two_pow_or_lt {n v : Nat} (h : v < 2 ^ n) : 2 ^ n ||| v < 2 ^ (n + 1) :=
  Nat.or_lt_two_pow (Nat.pow_lt_pow_right (by decide) n.lt_succ_self)
    (h.trans (Nat.pow_lt_pow_right (by decide) n.lt_succ_self))

/-- The bit above an `n`-bit value, as a flag before it. -/
theorem ofNat_two_pow_or_eq_append {n v : Nat} (h : v < 2 ^ n) :
    BitVec.ofNat (1 + n) (2 ^ n ||| v) = 1#1 ++ BitVec.ofNat n v := by
  have hv : 2 ^ n ||| v < 2 ^ (1 + n) := Nat.add_comm n 1 ▸ two_pow_or_lt h
  apply BitVec.eq_of_toNat_eq
  rw [BitVec.toNat_ofNat, Nat.mod_eq_of_lt hv]
  simp [BitVec.toNat_append, Nat.shiftLeft_eq, Nat.mod_eq_of_lt h]

theorem ofNat_flag_shiftLeft_eq_append {n v : Nat} (m : Nat) (h : v < 2 ^ n) :
    BitVec.ofNat (1 + n + m) ((2 ^ n ||| v) <<< m) = 1#1 ++ BitVec.ofNat n v ++ 0#m := by
  rw [ofNat_shiftLeft_eq_append, ofNat_two_pow_or_eq_append h]

/-- `n` side-set bits, left-aligned in the field (49 R101). -/
theorem trunc16_sideset_eq_fieldWord {n v : Nat} (hn : n ≤ 5) (hv : v < 2 ^ n) :
    trunc16 (v <<< (13 - n)) = fieldWord (BitVec.ofNat 5 (v <<< (5 - n))) := by
  have hs : v <<< (5 - n) ≤ 31 := by interval_cases n <;> simp only [Nat.shiftLeft_eq] <;> omega
  rw [← trunc16_shiftLeft_eight_eq_fieldWord hs, ← Nat.shiftLeft_add, show 5 - n + 8 = 13 - n by omega]

/-- The optional form is the plain form with one more bit, its flag on top (49 R102, R103). -/
theorem sidesetOpt_flag_or_eq_shiftLeft {n : Nat} (v : Nat) (hn : n ≤ 12) :
    0x1000 ||| (v <<< (12 - n)) = (2 ^ n ||| v) <<< (13 - (n + 1)) := by
  rw [Nat.shiftLeft_or_distrib, Nat.shiftLeft_eq (2 ^ n), ← Nat.pow_add, show n + (13 - (n + 1)) = 12 by omega,
    show 13 - (n + 1) = 12 - n by omega]

theorem trunc16_sidesetOpt_eq_fieldWord {n v : Nat} (hn : n ≤ 4) (hv : v < 2 ^ n) :
    trunc16 (0x1000 ||| (v <<< (12 - n))) = fieldWord (BitVec.ofNat 5 ((2 ^ n ||| v) <<< (4 - n))) := by
  rw [sidesetOpt_flag_or_eq_shiftLeft v (by omega),
    trunc16_sideset_eq_fieldWord (by omega) (two_pow_or_lt hv), show 5 - (n + 1) = 4 - n by omega]

/-! ## The parts that the wrappers pack -/

/-- The composite IRQ number fills the argument field with `r0nnn` (30 R43). -/
theorem ofNat_irqComposite (r : Bool) {n : WNum} (h : n.toNat ≤ 7) :
    BitVec.ofNat 5 (irqComposite r n.toNat) = irqBits r n := by
  rw [irqBits, low, ← BitVec.ofNat_toNat]
  generalize n.toNat = k at h
  interval_cases k <;> cases r <;> rfl

theorem ofNat_movArgument (op : MovOp) (src : Operand) :
    BitVec.ofNat 5 (movArgument op src) = BitVec.ofNat 2 (K.movOp op) ++ K.sel src := by
  cases op <;> cases src <;> rfl

theorem ofNat_waitSelector (src : WaitSrc) (p : Bool) :
    BitVec.ofNat 3 (waitSelector src p) = BitVec.ofBool p ++ BitVec.ofNat 2 (K.waitSrc src) := by
  cases src <;> cases p <;> rfl

theorem ofNat_ppSelector (f b : Bool) :
    BitVec.ofNat 3 (ppSelector f b) = 0#1 ++ BitVec.ofBool f ++ BitVec.ofBool b := by
  cases f <;> cases b <;> rfl

theorem ofNat_selNat (o : Operand) : BitVec.ofNat 3 (selNat o) = K.sel o := BitVec.ofNat_toNat ..

/-! ## The opcode map by families (30 R46) -/

section
variable (c : OpClass) (k g a n : WNum) (o d : Operand) (cond : JmpCond) (op : MovOp) (sub : IrqSub) (r : Bool)

@[simp] theorem opcodeWord_encodeArgsInstr :
    opcodeWord (encodeArgsInstr c k g) = classWord c (low 3 k) (low 5 g) := by
  cases c
  case pull =>
    have h : low 2 k = (low 3 k).setWidth 2 := (BitVec.setWidth_setWidth_of_le k (by decide)).symm
    simp only [encodeArgsInstr, opcodeWord, h]
    rfl
  all_goals rfl

@[simp] theorem opcodeWord_encodeArgsWithOperandInstr :
    opcodeWord (encodeArgsWithOperandInstr c o g) = classWord c (K.sel o) (low 5 g) := by cases c <;> rfl

@[simp] theorem opcodeWord_jmpInstr :
    opcodeWord (jmpInstr cond a) = classWord .jmp (BitVec.ofNat 3 (K.jmpCond cond)) (low 5 a) := by
  cases cond <;> rfl

@[simp] theorem opcodeWord_movInstr :
    opcodeWord (movInstr op d o) = classWord .mov (K.sel d) (BitVec.ofNat 5 (movArgument op o)) := by
  rw [ofNat_movArgument]
  cases op <;> rfl

@[simp] theorem opcodeWord_irqInstr :
    opcodeWord (irqInstr sub r n) = classWord .irq (BitVec.ofNat 3 (K.irqSub sub)) (irqBits r n) := by
  cases sub <;> rfl
end

theorem opcodeWord_sidesetInstr {n e : WNum} (h1 : 1 ≤ n.toNat) (h5 : n.toNat ≤ 5) :
    opcodeWord (sidesetInstr n e) = fieldWord (BitVec.ofNat 5 (e.toNat <<< (5 - n.toNat))) := by
  obtain ⟨k, hk, rfl⟩ : ∃ k ≤ 5, n = BitVec.ofNat 32 k := ⟨n.toNat, h5, by simp⟩
  interval_cases k
  · simp at h1
  · exact congrArg fieldWord (ofNat_shiftLeft_eq_append 1 4 e.toNat).symm
  · exact congrArg fieldWord (ofNat_shiftLeft_eq_append 2 3 e.toNat).symm
  · exact congrArg fieldWord (ofNat_shiftLeft_eq_append 3 2 e.toNat).symm
  · exact congrArg fieldWord (ofNat_shiftLeft_eq_append 4 1 e.toNat).symm
  · rfl

theorem opcodeWord_sidesetOptInstr {n e : WNum} (h1 : 1 ≤ n.toNat) (h4 : n.toNat ≤ 4)
    (he : e.toNat < 2 ^ n.toNat) :
    opcodeWord (sidesetOptInstr n e) =
      fieldWord (BitVec.ofNat 5 ((2 ^ n.toNat ||| e.toNat) <<< (4 - n.toNat))) := by
  obtain ⟨k, hk, rfl⟩ : ∃ k ≤ 4, n = BitVec.ofNat 32 k := ⟨n.toNat, h4, by simp⟩
  interval_cases k
  · simp at h1
  · exact congrArg fieldWord (ofNat_flag_shiftLeft_eq_append 3 he).symm
  · exact congrArg fieldWord (ofNat_flag_shiftLeft_eq_append 2 he).symm
  · exact congrArg fieldWord (ofNat_flag_shiftLeft_eq_append 1 he).symm
  · exact congrArg fieldWord (ofNat_two_pow_or_eq_append he).symm

/-- THE PACKER AND THE MAP AGREE: whatever word an in-range request yields is the pattern of its row. -/
theorem eq_opcodeWord_of_result_eq_ok {i : Instr} {v : Bool} {draws : Nat} {w : Word}
    (hwf : i.wellFormed = true) (hr : inRange i = true) (h : result i v draws = .ok w) : w = opcodeWord i := by
  induction i, hwf using wellFormed_cases with
  | args c k g =>
    rw [result_encodeArgsInstr, encodeArgs_eq_ok_iff, pack_eq_classWord _ (selector_le_of_inRange hr)] at h
    simpa [low] using h.2
  | withOperand c o g =>
    rw [result_encodeArgsWithOperandInstr, encodeArgsWithOperand_eq_ok_iff, pack_eq_classWord _ (selNat_le o)] at h
    simpa [low, ofNat_selNat] using h.2
  | jmp c a =>
    rw [result_jmpInstr, encodeArgs_eq_ok_iff, pack_eq_classWord _ (jmpCond_le c)] at h
    simpa [low] using h.2
  | waitGpio p x =>
    rw [result, encodeArgs_eq_ok_iff, pack_eq_classWord _ (waitSelector_le ..), ofNat_waitSelector,
      BitVec.ofNat_toNat] at h
    exact h.2
  | waitPin p x =>
    rw [result, encodeArgs_eq_ok_iff, pack_eq_classWord _ (waitSelector_le ..), ofNat_waitSelector,
      BitVec.ofNat_toNat] at h
    exact h.2
  | waitIrq p r n =>
    have hn : n.toNat ≤ 7 := by simpa [inRange, checks, irqCheck, isOperandCause] using hr
    rw [result, encodeWaitIrq_eq_ok_iff, pack_eq_classWord _ (waitSelector_le ..), ofNat_waitSelector,
      ofNat_irqComposite r hn] at h
    exact h.2
  | in_ o c =>
    rw [result, encodeIn_eq_ok_iff, pack_eq_classWord _ (selNat_le o), ofNat_selNat, BitVec.ofNat_toNat] at h
    exact h.2
  | out o c =>
    rw [result, encodeOut_eq_ok_iff, pack_eq_classWord _ (selNat_le o), ofNat_selNat, BitVec.ofNat_toNat] at h
    exact h.2
  | push f b =>
    rw [result, encodeArgs_eq_ok_iff, pack_eq_classWord _ (ppSelector_le_seven f b), ofNat_ppSelector] at h
    exact h.2
  | pull f b =>
    rw [result, encodeArgs_eq_ok_iff, pack_eq_classWord _ (ppSelector_le_seven f b), ofNat_ppSelector] at h
    cases f <;> cases b <;> exact h.2
  | mov op d o =>
    rw [result_movInstr, encodeMov_eq_ok_iff, pack_eq_classWord _ (selNat_le d), ofNat_selNat] at h
    simpa using h.2
  | nop =>
    rw [result, encodeMov_eq_ok_iff] at h
    exact h.2
  | irq sub r n =>
    have hn : n.toNat ≤ 7 := by simpa [inRange, irqCheck, isOperandCause] using hr
    rw [result_irqInstr, encodeIrq_eq_ok_iff, pack_eq_classWord _ ((irqSub_le sub).trans (by decide)),
      ofNat_irqComposite r hn] at h
    simpa using h.2
  | set o x =>
    rw [result, encodeSet_eq_ok_iff, pack_eq_classWord _ (selNat_le o), ofNat_selNat, BitVec.ofNat_toNat] at h
    exact h.2
  | delay c =>
    have hc : c.toNat ≤ 31 := by simpa [inRange, checks, isOperandCause] using hr
    rw [result, encodeDelay_eq_ok_iff, trunc16_shiftLeft_eight_eq_fieldWord hc, BitVec.ofNat_toNat] at h
    exact h.2
  | sideset n e =>
    obtain ⟨⟨h1, h5⟩, he⟩ : (1 ≤ n.toNat ∧ n.toNat ≤ 5) ∧ e.toNat ≤ 2 ^ n.toNat - 1 := by
      simpa [inRange, sidesetChecks, isOperandCause] using hr
    rw [result_sidesetInstr, sidesetResult, encodeSideset_eq_ok_iff, if_neg (by omega),
      trunc16_sideset_eq_fieldWord h5 (Nat.lt_of_le_pred (Nat.two_pow_pos _) he),
      ← opcodeWord_sidesetInstr h1 h5] at h
    exact h.2
  | sidesetOpt n e =>
    obtain ⟨⟨h1, h4⟩, he⟩ : (1 ≤ n.toNat ∧ n.toNat ≤ 4) ∧ e.toNat ≤ 2 ^ n.toNat - 1 := by
      simpa [inRange, sidesetOptChecks, isOperandCause] using hr
    have he : e.toNat < 2 ^ n.toNat := Nat.lt_of_le_pred (Nat.two_pow_pos _) he
    rw [result_sidesetOptInstr, sidesetResult, encodeSidesetOpt_eq_ok_iff, if_neg (by omega),
      trunc16_sidesetOpt_eq_fieldWord h4 he, ← opcodeWord_sidesetOptInstr h1 h4 he] at h
    exact h.2

end Sys2Proof.Machine
end

section
/-! The opcode map and the shapes of words (30 R39 to R50). -/

namespace Sys2Proof.Machine

/-! ## The opcode map -/

/-- Settles O19: VALIDATE 0 or legality gives a word, and being in range makes it the word of the row. -/
theorem everyInstructionYieldsItsRowOfTheOpcodeMap :
    Obligations.EveryInstructionYieldsItsRowOfTheOpcodeMap := by
  intro i s hwf hr hv
  obtain ⟨w, hw⟩ := (exists_result_ok_iff s.validate s.draws hwf).mpr hv
  rw [exec_eq_complete_of_specified s (specified_of_inRange hr), hw, complete_ok,
    eq_opcodeWord_of_result_eq_ok hwf hr hw]

/-- A legal request yields the word of its row in every state. -/
theorem exec_of_legal {i : Instr} {w : Word} (hwf : i.wellFormed = true) (hl : legal i = true)
    (hw : opcodeWord i = w) (s : State) : exec i s = .next (afterWord s w) :=
  hw ▸ everyInstructionYieldsItsRowOfTheOpcodeMap i s hwf (inRange_of_legal hl) (.inr hl)

/-- Settles O53: the four requests are legal, and their rows are the four words. -/
theorem workedExamplesOfTheSource : Obligations.WorkedExamplesOfTheSource := by
  intro s
  refine ⟨?jmp, ?waitGpio, ?sideset, ?irqSet⟩
  all_goals exact exec_of_legal (by decide) (by decide) (by decide) s

/-! ## Class tags -/

/-- The class of a major value, PUSH for the one that two classes share. -/
def classOfMajor (m : BitVec 3) : OpClass :=
  match m.toNat with
  | 0 => .jmp
  | 1 => .wait
  | 2 => .in_
  | 3 => .out
  | 4 => .push
  | 5 => .mov
  | 6 => .irq
  | _ => .set

theorem majorBits_tag_classOfMajor : ∀ m, majorBits (K.tag (classOfMajor m)) = m := by decide

theorem classOfMajor_ne_pull : ∀ m, classOfMajor m ≠ .pull := by decide

/-- The major value tells all classes apart but PUSH and PULL. -/
theorem classOfMajor_majorBits_tag (c : OpClass) :
    classOfMajor (majorBits (K.tag c)) = if c = .pull then .push else c := by
  cases c <;> rfl

/-- Settles O24: every major value has its class, and a class is its major value's but for PULL. -/
theorem classTagsAndMajorValues : Obligations.ClassTagsAndMajorValues := by
  refine ⟨rfl, fun m => ⟨classOfMajor m, majorBits_tag_classOfMajor m⟩, ?sameMajor, by decide, ?lowBits⟩
  case sameMajor =>
    intro c c' h
    have hcc' := congrArg classOfMajor h
    rw [classOfMajor_majorBits_tag, classOfMajor_majorBits_tag] at hcc'
    split_ifs at hcc' <;> simp_all
  case lowBits =>
    intro c
    cases c <;> decide

/-! ## Base words -/

/-- An instruction encoder is no side-set form, so its term is well formed. -/
theorem wellFormed_of_instrClass {i : Instr} {c : OpClass} (h : instrClass i = some c) :
    i.wellFormed = true := by
  cases i
  case encodeSideset5 | encodeSidesetOpt4 => cases h
  all_goals rfl

/-- Every row of an instruction encoder is a base word of its class (30 R45, R46). -/
theorem opcodeWord_fields_of_instrClass {i : Instr} {c : OpClass} (h : instrClass i = some c) :
    fieldBits (opcodeWord i) = 0 ∧ majorBits (opcodeWord i) = majorBits (K.tag c) := by
  cases i <;> cases h <;> exact ⟨fieldBits_baseWord .., majorBits_baseWord ..⟩

/-- With VALIDATE 0 the raw core packs whatever it is given (41 R65). -/
theorem exec_encodeArgsInstr_of_unvalidated (c : OpClass) (k g : WNum) {s : State} (hv : s.validate = false) :
    exec (encodeArgsInstr c k g) s = .next (afterWord s (pack c k.toNat g.toNat)) := by
  have h : encodeArgs false c k.toNat g.toNat = .ok (pack c k.toNat g.toNat) :=
    encodeArgs_eq_ok_iff.mpr ⟨.inl rfl, rfl⟩
  rw [exec_eq_complete_of_specified s (by cases c <;> rfl), result_encodeArgsInstr, hv, h, complete_ok]

/-- Selector 8 reaches bit 8 of the word (41 R65). -/
theorem fieldBits_pack_eight_ne_zero (c : OpClass) : fieldBits (pack c 8 0) ≠ 0 := by
  cases c <;> decide

/-- Settles O20: in range the word is the row's, a base word; selector 8 shows why the range matters. -/
theorem baseWordsHaveZeroFieldBits : Obligations.BaseWordsHaveZeroFieldBits := by
  refine ⟨?inRange, ?selectorEight⟩
  case inRange =>
    intro i s w c hc hr h
    rw [eq_opcodeWord_of_result_eq_ok (wellFormed_of_instrClass hc) hr (result_eq_ok_of_exec h)]
    exact opcodeWord_fields_of_instrClass hc
  case selectorEight =>
    intro s c hv
    exact ⟨pack c 8 0, exec_encodeArgsInstr_of_unvalidated c 8 0 hv, fieldBits_pack_eight_ne_zero c⟩

/-! ## The raw packer -/

/-- An argument of `encode_args` for a wanted argument field: 32 stands for 0 with IN and OUT (44 R82). -/
def rawArgument (c : OpClass) (a : BitVec 5) : WNum := if c = .in_ ∨ c = .out then countOf a else widen a

theorem low_rawArgument (c : OpClass) : ∀ a, low 5 (rawArgument c a) = a := by
  cases c <;> decide

theorem argumentInRange_rawArgument (c : OpClass) (a : BitVec 5) :
    argumentInRange c (rawArgument c a).toNat := by
  rw [← argumentCheck_fst]
  revert a
  cases c <;> decide

theorem widen_selector_le : ∀ k : BitVec 3, (widen k).toNat ≤ 7 := by decide

theorem low_widen_selector : ∀ k : BitVec 3, low 3 (widen k) = k := by decide

/-- Every base word of a class other than PULL, whose tag fills a selector bit, is the row of a raw request. -/
theorem opcodeWord_raw {c : OpClass} (hc : c ≠ .pull) (k : BitVec 3) (a : BitVec 5) :
    opcodeWord (encodeArgsInstr c (widen k) (rawArgument c a)) = baseWord (majorBits (K.tag c)) k a := by
  rw [opcodeWord_encodeArgsInstr, low_rawArgument, low_widen_selector, classWord, if_neg hc]

/-- Settles O23: the class of the word's major value (PUSH, not PULL), its selector and its argument make a
legal request whose row is the word. -/
theorem rawPackerEmitsEveryBaseWord : Obligations.RawPackerEmitsEveryBaseWord := by
  refine ⟨?everyBaseWord, ?examples, by decide, by decide⟩
  case everyBaseWord =>
    intro w hw
    obtain ⟨c, hc, hm⟩ : ∃ c, c ≠ .pull ∧ majorBits (K.tag c) = majorBits w :=
      ⟨_, classOfMajor_ne_pull _, majorBits_tag_classOfMajor _⟩
    have hlegal := (legal_encodeArgsInstr_iff c _ _).mpr
      ⟨widen_selector_le (selectorBits w), argumentInRange_rawArgument c (argumentBits w)⟩
    have hword : opcodeWord (encodeArgsInstr c (widen (selectorBits w)) (rawArgument c (argumentBits w))) = w := by
      rw [opcodeWord_raw hc, hm, ← eq_baseWord_of_fieldBits_eq_zero hw]
    exact ⟨c, _, _, exec_of_legal (by cases c <;> rfl) hlegal hword⟩
  case examples =>
    intro s
    constructor
    all_goals exact exec_of_legal (by decide) (by decide) (by decide) s

end Sys2Proof.Machine
end

section
/-! The operand model: selectors, the legality table and the repository's flagged integers (40 R55 to R62). -/

namespace Sys2Proof.Machine

/-! ## Selectors and legality -/

/-- Settles O25: the operands are the constructors, and a column is the table read at its use-class. -/
theorem operandSelectorsAndLegalityColumns : Obligations.OperandSelectorsAndLegalityColumns := by
  refine ⟨?nineOperands, ?selectors, ?inSrc, ?outDest, ?setDest, ?movSrc, ?movDest⟩
  case nineOperands =>
    intro o
    cases o <;> decide
  all_goals decide

/-! ## The flag bits of an operand's integer -/

theorem flagBit_and (f : Bool) (m n : Nat) : flagBit f m &&& n = flagBit f (m &&& n) := by
  cases f
  case false => exact Nat.zero_and n
  case true => rfl

@[simp] theorem flagBit_zero (f : Bool) : flagBit f 0 = 0 := ite_self 0

theorem flagBit_ne_zero_iff {f : Bool} {n : Nat} : flagBit f n ≠ 0 ↔ f = true ∧ n ≠ 0 := by
  cases f <;> simp [flagBit]

theorem forbidFlag_ne_zero (u : UseClass) : K.forbidFlag u ≠ 0 := by cases u <;> decide

/-- The flags stand above the selector. -/
@[simp] theorem forbidFlag_and_seven (u : UseClass) : K.forbidFlag u &&& 7 = 0 := by cases u <;> rfl

@[simp] theorem selNat_and_seven (o : Operand) : selNat o &&& 7 = selNat o := by cases o <;> rfl

@[simp] theorem selNat_and_forbidFlag (o : Operand) (u : UseClass) : selNat o &&& K.forbidFlag u = 0 := by
  have hsel : selNat o = 7 &&& selNat o := by rw [Nat.and_comm, selNat_and_seven]
  rw [hsel, Nat.and_comm, ← Nat.and_assoc, forbidFlag_and_seven, Nat.zero_and]

/-- Each use-class has a bit of its own. -/
theorem forbidFlag_and_forbidFlag (u u' : UseClass) :
    K.forbidFlag u &&& K.forbidFlag u' = if u = u' then K.forbidFlag u' else 0 := by
  cases u <;> cases u' <;> rfl

/-- The flag an operand's integer carries for one use-class (40 R62). -/
def useFlag (v : Bool) (o : Operand) (u : UseClass) : Nat := flagBit (v && K.forbid o u) (K.forbidFlag u)

theorem flaggedInteger_eq (v : Bool) (o : Operand) :
    flaggedInteger v o = selNat o ||| useFlag v o .inSrc ||| useFlag v o .outDest ||| useFlag v o .setDest |||
      useFlag v o .movSrc ||| useFlag v o .movDest := rfl

@[simp] theorem useFlag_and_seven (v : Bool) (o : Operand) (u : UseClass) : useFlag v o u &&& 7 = 0 := by
  rw [useFlag, flagBit_and, forbidFlag_and_seven, flagBit_zero]

theorem useFlag_and_forbidFlag (v : Bool) (o : Operand) (u u' : UseClass) :
    useFlag v o u &&& K.forbidFlag u' = if u = u' then useFlag v o u' else 0 := by
  rw [useFlag, flagBit_and, forbidFlag_and_forbidFlag]
  split_ifs with h
  case pos => rw [h, useFlag]
  case neg => exact flagBit_zero _

theorem useFlag_ne_zero_iff {v : Bool} {o : Operand} {u : UseClass} :
    useFlag v o u ≠ 0 ↔ v = true ∧ K.forbid o u = true := by
  rw [useFlag, flagBit_ne_zero_iff, and_iff_left (forbidFlag_ne_zero u), Bool.and_eq_true]

/-- Masking with 7 leaves the selector, in both builds (40 R60). -/
theorem flaggedInteger_and_seven (v : Bool) (o : Operand) : flaggedInteger v o &&& 7 = selNat o := by
  simp only [flaggedInteger_eq, Nat.and_or_distrib_right, useFlag_and_seven, selNat_and_seven, Nat.or_zero]

/-- Masking with a flag leaves that flag alone. -/
theorem flaggedInteger_and_forbidFlag (v : Bool) (o : Operand) (u : UseClass) :
    flaggedInteger v o &&& K.forbidFlag u = useFlag v o u := by
  simp only [flaggedInteger_eq, Nat.and_or_distrib_right, useFlag_and_forbidFlag, selNat_and_forbidFlag]
  cases u <;> simp

/-- Settles O27: the two masks give the selector and the flag; the integers are evaluated. -/
theorem flaggedIntegersCarrySelectorAndLegality : Obligations.FlaggedIntegersCarrySelectorAndLegality := by
  refine ⟨flaggedInteger_and_seven, ?flags, ?validated, ?unvalidated⟩
  case flags =>
    intro v o u
    rw [flaggedInteger_and_forbidFlag, useFlag_ne_zero_iff]
  all_goals decide

end Sys2Proof.Machine
end

section
/-! The core packer: the word, aborts and fields of `encode_args`, and the operand wrapper as `encode_args` at the
operand's selector (41 R63, R64, R66). -/

namespace Sys2Proof.Machine

/-! ## The invocations -/

/-- `encode_args` of any class is the core on the state's configuration, and draws nothing. -/
theorem exec_encodeArgsInstr (c : OpClass) (k g : WNum) (s : State) :
    exec (encodeArgsInstr c k g) s = complete (encodeArgs s.validate c k.toNat g.toNat) s := by
  rw [exec_eq_complete_of_specified s (by cases c <;> rfl), result_encodeArgsInstr]

/-- As `exec_encodeArgsInstr`, for the operand wrapper. -/
theorem exec_encodeArgsWithOperandInstr (c : OpClass) (o : Operand) (g : WNum) (s : State) :
    exec (encodeArgsWithOperandInstr c o g) s = complete (encodeArgsWithOperand s.validate c o g.toNat) s := by
  rw [exec_eq_complete_of_specified s (by cases c <;> rfl), result_encodeArgsWithOperandInstr]

theorem exec_encodeArgsInstr_of_ok {c : OpClass} {k g : WNum} {s : State}
    (h : s.validate = false ∨ (k.toNat ≤ 7 ∧ argumentInRange c g.toNat)) :
    exec (encodeArgsInstr c k g) s = .next (afterWord s (pack c k.toNat g.toNat)) := by
  rw [exec_encodeArgsInstr, encodeArgs_eq_ok_iff.mpr ⟨h, rfl⟩, complete_ok]

/-- A selector out of range aborts, whatever the argument (60 R115). -/
theorem exec_encodeArgsInstr_of_selector_gt {c : OpClass} {k g : WNum} {s : State} (hv : s.validate = true)
    (hk : 7 < k.toNat) : exec (encodeArgsInstr c k g) s = .fault (.abort .aSelRange) := by
  rw [exec_encodeArgsInstr, encodeArgs_eq_error_iff.mpr ⟨hv, .inl ⟨hk, rfl⟩⟩, complete_error]

/-- Past the selector's check, an argument out of range aborts with the cause of its class (41 R64). -/
theorem exec_encodeArgsInstr_of_argument_out {c : OpClass} {k g : WNum} {s : State} (hv : s.validate = true)
    (hk : k.toNat ≤ 7) (hg : ¬ argumentInRange c g.toNat) :
    exec (encodeArgsInstr c k g) s =
      .fault (.abort (if c = .in_ ∨ c = .out then .aArgRangeInout else .aArgRange)) := by
  rw [exec_encodeArgsInstr, encodeArgs_eq_error_iff.mpr ⟨hv, .inr ⟨hk, hg, rfl⟩⟩, complete_error]

/-! ## The fields of an in-range word -/

@[simp] theorem argumentBits_baseWord (m s : BitVec 3) (g : BitVec 5) : argumentBits (baseWord m s g) = g :=
  BitVec.extractLsb'_append_eq_right

/-- Only the selector can leave its field: from 0 to 7, the major value is the class's, the field bits are zero
and the argument is reduced to five bits (41 R63, R68). -/
theorem pack_fields (c : OpClass) {k : Nat} (g : Nat) (hk : k ≤ 7) :
    majorBits (pack c k g) = majorBits (K.tag c) ∧ fieldBits (pack c k g) = 0 ∧
      argumentBits (pack c k g) = BitVec.ofNat 5 g := by
  rw [pack_eq_classWord g hk]
  exact ⟨majorBits_baseWord .., fieldBits_baseWord .., argumentBits_baseWord ..⟩

/-- Settles O28: the word and the aborts are the core's, and the fields are those of the packing formula. -/
theorem encodeArgsPacksTagSelectorArgument : Obligations.EncodeArgsPacksTagSelectorArgument := by
  intro c k g s inOut argOk w
  refine ⟨exec_encodeArgsInstr_of_ok, exec_encodeArgsInstr_of_selector_gt, ?inOutArgument, ?otherArgument, ?fields⟩
  case inOutArgument =>
    intro hv hk hc hg
    rw [exec_encodeArgsInstr_of_argument_out hv hk hg, if_pos hc]
  case otherArgument =>
    intro hv hk hc hg
    rw [exec_encodeArgsInstr_of_argument_out hv hk hg, if_neg hc]
  case fields =>
    intro hk _
    exact pack_fields c g.toNat hk

/-! ## The operand wrapper -/

/-- An operand's selector, as the number the core is given (40 R60). -/
theorem toNat_setWidth_sel (o : Operand) : ((K.sel o).setWidth 32).toNat = (K.sel o).toNat :=
  BitVec.toNat_setWidth_of_le (by decide)

/-- The wrapper masks its operand and delegates (41 R66). -/
theorem exec_encodeArgsWithOperandInstr_eq (c : OpClass) (o : Operand) (g : WNum) (s : State) :
    exec (encodeArgsWithOperandInstr c o g) s = exec (encodeArgsInstr c ((K.sel o).setWidth 32) g) s := by
  rw [exec_encodeArgsWithOperandInstr, exec_encodeArgsInstr, toNat_setWidth_sel, encodeArgsWithOperand, selNat]

/-- Settles O31: by delegation the clauses are those of `encode_args` at a selector that is always in range. -/
theorem withOperandMasksAndDelegates : Obligations.WithOperandMasksAndDelegates := by
  intro c o g s inOut valueOk
  have hsel : ((K.sel o).setWidth 32).toNat ≤ 7 := (toNat_setWidth_sel o).trans_le (selNat_le o)
  obtain ⟨packs, -, abortsInOut, abortsOther, -⟩ :=
    encodeArgsPacksTagSelectorArgument c ((K.sel o).setWidth 32) g s
  rw [exec_encodeArgsWithOperandInstr_eq, ← toNat_setWidth_sel o]
  refine ⟨rfl, ?word, ?inOutValue, ?otherValue⟩
  case word => exact fun h => packs (h.imp_right fun hg => ⟨hsel, hg⟩)
  case inOutValue => exact fun hv hc hg => abortsInOut hv hsel hc hg
  case otherValue => exact fun hv hc hg => abortsOther hv hsel hc hg

end Sys2Proof.Machine
end

section
/-! The eight JMP encoders: each is the core packer of class JMP at its condition code (42 R69 to R77). -/

namespace Sys2Proof.Machine

/-- The packing formula as one number cut to 16 bits, the argument by its remainder (41 R63). -/
theorem pack_eq_ofNat (c : OpClass) (k g : Nat) :
    pack c k g = BitVec.ofNat 16 ((K.tag c).toNat ||| (k <<< 5) ||| (g % 32)) :=
  congrArg (fun a => trunc16 ((K.tag c).toNat ||| (k <<< 5) ||| a)) (Nat.and_two_pow_sub_one_eq_mod g 5)

/-- JMP's tag is zero, so its word is the condition code above the address (42 R69). -/
theorem pack_jmp (k g : Nat) : pack .jmp k g = BitVec.ofNat 16 ((k <<< 5) ||| (g % 32)) := by
  have htag : (K.tag .jmp).toNat = 0 := rfl
  rw [pack_eq_ofNat, htag, Nat.zero_or]

/-- All classes but IN and OUT take an argument of at most 31 (41 R64). -/
theorem argumentInRange_iff_le {c : OpClass} {g : Nat} (hc : ¬ (c = .in_ ∨ c = .out)) :
    argumentInRange c g ↔ g ≤ 31 := by
  rw [argumentInRange, imp_iff_right hc]
  exact and_iff_right fun h => absurd h hc

theorem argumentInRange_jmp_iff {g : Nat} : argumentInRange .jmp g ↔ g ≤ 31 :=
  argumentInRange_iff_le (by decide)

/-- A condition code, as the number the core is given. -/
theorem toNat_ofNat_jmpCond (cond : JmpCond) : (BitVec.ofNat 32 (K.jmpCond cond)).toNat = K.jmpCond cond := by
  cases cond <;> rfl

theorem toNat_ofNat_jmpCond_le (cond : JmpCond) : (BitVec.ofNat 32 (K.jmpCond cond)).toNat ≤ 7 :=
  (toNat_ofNat_jmpCond cond).trans_le (jmpCond_le cond)

/-- A JMP encoder delegates to `encode_args(JMP, cond, addr)` (42 R69). -/
theorem exec_jmpInstr_eq (cond : JmpCond) (addr : WNum) (s : State) :
    exec (jmpInstr cond addr) s = exec (encodeArgsInstr .jmp (BitVec.ofNat 32 (K.jmpCond cond)) addr) s := by
  rw [exec_encodeArgsInstr, toNat_ofNat_jmpCond, exec_eq_complete_of_specified s (by cases cond <;> rfl),
    result_jmpInstr]

theorem exec_jmpInstr_of_ok {cond : JmpCond} {addr : WNum} {s : State}
    (h : s.validate = false ∨ addr.toNat ≤ 31) :
    exec (jmpInstr cond addr) s =
      .next (afterWord s (BitVec.ofNat 16 ((K.jmpCond cond <<< 5) ||| (addr.toNat % 32)))) := by
  have hcore : s.validate = false ∨
      (BitVec.ofNat 32 (K.jmpCond cond)).toNat ≤ 7 ∧ argumentInRange .jmp addr.toNat :=
    h.imp_right fun ha => ⟨toNat_ofNat_jmpCond_le cond, argumentInRange_jmp_iff.mpr ha⟩
  rw [exec_jmpInstr_eq, exec_encodeArgsInstr_of_ok hcore, toNat_ofNat_jmpCond, pack_jmp]

/-- A condition code is always in range, so only the address can abort (42 R69). -/
theorem exec_jmpInstr_of_address_gt {cond : JmpCond} {addr : WNum} {s : State} (hv : s.validate = true)
    (ha : 31 < addr.toNat) : exec (jmpInstr cond addr) s = .fault (.abort .aArgRange) := by
  have hout : ¬ argumentInRange .jmp addr.toNat := argumentInRange_jmp_iff.not.mpr (Nat.not_le.mpr ha)
  rw [exec_jmpInstr_eq, exec_encodeArgsInstr_of_argument_out hv (toNat_ofNat_jmpCond_le cond) hout,
    if_neg (by decide)]

/-- The eight JMP encoders in the spec's order, each with its code, are the family `jmpInstr` with `K.jmpCond`. -/
theorem exists_jmpCond_of_mem_jmpEncoders {addr : WNum} {p : Instr × Nat}
    (hp : p ∈ [(Instr.encodeJmp addr, 0), (Instr.encodeJmpNotX addr, 1), (Instr.encodeJmpXDec addr, 2),
      (Instr.encodeJmpNotY addr, 3), (Instr.encodeJmpYDec addr, 4), (Instr.encodeJmpXNeY addr, 5),
      (Instr.encodeJmpPin addr, 6), (Instr.encodeJmpNotOsre addr, 7)]) :
    ∃ cond, (jmpInstr cond addr, K.jmpCond cond) = p :=
  have hfamily : p ∈ [JmpCond.always, .notX, .xDec, .notY, .yDec, .xNeY, .pin, .notOsre].map
      fun cond => (jmpInstr cond addr, K.jmpCond cond) := hp
  (List.mem_map.mp hfamily).imp fun _ h => h.2

/-- Settles O33: each encoder is the family's at a condition, whose word and abort are the core's. -/
theorem jmpEncodersPackConditionAndAddress : Obligations.JmpEncodersPackConditionAndAddress := by
  intro addr s p hp
  obtain ⟨cond, rfl⟩ := exists_jmpCond_of_mem_jmpEncoders hp
  exact ⟨exec_jmpInstr_of_ok, exec_jmpInstr_of_address_gt⟩

end Sys2Proof.Machine
end

section
/-! The WAIT encoders: source and polarity in the selector, an index or the composite IRQ number in the argument
field (43 R78 to R81). -/

namespace Sys2Proof.Machine

theorem toNat_tag_wait : (K.tag .wait).toNat = 0x2000 := rfl

theorem waitSelector_eq (src : WaitSrc) (polarity : Bool) :
    waitSelector src polarity = K.waitSrc src ||| if polarity then 4 else 0 := rfl

theorem irqComposite_eq (relative : Bool) (irq : Nat) :
    irqComposite relative irq = (if relative then 0x10 else 0) ||| irq := rfl

/-! ## WAIT on an index -/

theorem argumentInRange_wait_iff {g : Nat} : argumentInRange .wait g ↔ g ≤ 31 :=
  argumentInRange_iff_le (by decide)

theorem runWaitIndex_of_ok {src : WaitSrc} {polarity : Bool} {index : WNum} {s : State}
    (h : s.validate = false ∨ index.toNat ≤ 31) :
    runWaitIndex src polarity index s = .next (afterWord s (BitVec.ofNat 16
      (0x2000 ||| ((K.waitSrc src ||| if polarity then 4 else 0) <<< 5) ||| (index.toNat % 32)))) := by
  have hcore : s.validate = false ∨ waitSelector src polarity ≤ 7 ∧ argumentInRange .wait index.toNat :=
    h.imp_right fun hi => ⟨waitSelector_le src polarity, argumentInRange_wait_iff.mpr hi⟩
  rw [runWaitIndex, encodeArgs_eq_ok_iff.mpr ⟨hcore, rfl⟩, complete_ok, pack_eq_ofNat, toNat_tag_wait,
    waitSelector_eq]

/-- A WAIT selector is always in range, so only the index can abort (43 R78). -/
theorem runWaitIndex_of_index_gt {src : WaitSrc} {polarity : Bool} {index : WNum} {s : State}
    (hv : s.validate = true) (hi : 31 < index.toNat) :
    runWaitIndex src polarity index s = .fault (.abort .aArgRange) := by
  have hout : ¬ argumentInRange .wait index.toNat := argumentInRange_wait_iff.not.mpr (Nat.not_le.mpr hi)
  rw [runWaitIndex, encodeArgs_eq_error_iff.mpr ⟨hv, .inr ⟨waitSelector_le src polarity, hout, rfl⟩⟩,
    complete_error, if_neg (by decide)]

/-- The two encoders that take an index are the model's WAIT on an index, each with its source code. -/
theorem exists_waitSrc_of_mem_waitIndexEncoders {polarity : Bool} {index : WNum} {p : Instr × Nat}
    (hp : p ∈ [(Instr.encodeWaitGpio polarity index, 0), (Instr.encodeWaitPin polarity index, 1)]) :
    ∃ src, K.waitSrc src = p.2 ∧ ∀ s, exec p.1 s = runWaitIndex src polarity index s := by
  obtain rfl | rfl : p = (.encodeWaitGpio polarity index, 0) ∨ p = (.encodeWaitPin polarity index, 1) := by
    simpa using hp
  case inl => exact ⟨.gpio, rfl, fun _ => rfl⟩
  case inr => exact ⟨.pin, rfl, fun _ => rfl⟩

/-- Settles O34: each encoder is WAIT on an index at its source, whose word and abort are the core's. -/
theorem waitGpioAndPinPackPolarityAndIndex : Obligations.WaitGpioAndPinPackPolarityAndIndex := by
  intro polarity index s p hp
  obtain ⟨src, hcode, hexec⟩ := exists_waitSrc_of_mem_waitIndexEncoders hp
  rw [hexec, ← hcode]
  exact ⟨runWaitIndex_of_ok, runWaitIndex_of_index_gt⟩

/-! ## WAIT on an IRQ -/

/-- `encode_wait_irq` is its pure operation on the state's configuration, and draws nothing. -/
theorem exec_encodeWaitIrq (polarity relative : Bool) (irq : WNum) (s : State) :
    exec (.encodeWaitIrq polarity relative irq) s =
      complete (encodeWaitIrq s.validate polarity relative irq.toNat) s :=
  exec_eq_complete_of_specified s rfl

/-- Settles O35: the helper's number is packed, and the only abort is the helper's. -/
theorem waitIrqPacksPolarityAndIrqNumber : Obligations.WaitIrqPacksPolarityAndIrqNumber := by
  intro polarity relative irq s
  rw [exec_encodeWaitIrq]
  refine ⟨?word, ?abort⟩
  case word =>
    intro h
    rw [encodeWaitIrq_eq_ok_iff.mpr ⟨h, rfl⟩, complete_ok, pack, trunc16, toNat_tag_wait, waitSelector_eq,
      irqComposite_eq, K.waitSrc]
  case abort =>
    intro hv hirq
    rw [encodeWaitIrq_eq_error_iff.mpr ⟨hv, hirq, rfl⟩, complete_error]

end Sys2Proof.Machine
end

section
/-! The IN and OUT encoders: the operand's legality first, then the core packer on its selector and the count
(44 R82 to R84). -/

namespace Sys2Proof.Machine

theorem toNat_tag_in : (K.tag .in_).toNat = 0x4000 := rfl

theorem toNat_tag_out : (K.tag .out).toNat = 0x6000 := rfl

/-! ## The checks -/

/-- The operands a use-class forbids, as a list: its column of the legality table (40 R58). -/
theorem mem_legalityColumn_iff {operands column : List Operand} {u : UseClass} (hall : ∀ o, o ∈ operands)
    (hcolumn : operands.filter (fun o => K.forbid o u) = column) (o : Operand) :
    o ∈ column ↔ K.forbid o u = true := by
  rw [← hcolumn, List.mem_filter, and_iff_right (hall o)]

theorem mem_inSrcColumn_iff (o : Operand) :
    o ∈ [Operand.pindirs, .status, .pc] ↔ K.forbid o .inSrc = true := by
  obtain ⟨hall, -, hinSrc, -⟩ := operandSelectorsAndLegalityColumns
  exact mem_legalityColumn_iff hall hinSrc o

theorem mem_outDestColumn_iff (o : Operand) :
    o ∈ [Operand.status, .osr] ↔ K.forbid o .outDest = true := by
  obtain ⟨hall, -, -, houtDest, -⟩ := operandSelectorsAndLegalityColumns
  exact mem_legalityColumn_iff hall houtDest o

/-- The counts rejected are those outside 1 to 32 (44 R82). -/
theorem count_rejected_iff (count : WNum) :
    count = 0 ∨ 32 < count.toNat ↔ ¬ (1 ≤ count.toNat ∧ count.toNat ≤ 32) := by
  have hzero : count = 0 ↔ count.toNat = 0 := BitVec.toNat_eq
  rw [hzero]
  omega

/-! ## IN -/

/-- `encode_in` is its pure operation on the state's configuration, and draws nothing. -/
theorem exec_encodeIn (src : Operand) (count : WNum) (s : State) :
    exec (.encodeIn src count) s = complete (encodeIn s.validate src count.toNat) s :=
  exec_eq_complete_of_specified s rfl

/-- Settles O36: the list is the source column, so each clause is one of the wrapper's outcomes. -/
theorem inPacksSourceAndCount : Obligations.InPacksSourceAndCount := by
  intro src count s
  rw [exec_encodeIn, mem_inSrcColumn_iff, Bool.not_eq_true, count_rejected_iff]
  refine ⟨?word, ?source, ?count⟩
  case word =>
    intro h
    rw [encodeIn_eq_ok_iff.mpr ⟨h, rfl⟩, complete_ok, pack_eq_ofNat, toNat_tag_in, selNat]
  case source =>
    intro hv hsrc
    rw [encodeIn_eq_error_iff.mpr ⟨hv, .inl ⟨hsrc, rfl⟩⟩, complete_error]
  case count =>
    intro hv hsrc hcount
    rw [encodeIn_eq_error_iff.mpr ⟨hv, .inr ⟨hsrc, hcount, rfl⟩⟩, complete_error]

/-! ## OUT -/

/-- As `exec_encodeIn`, for `encode_out`. -/
theorem exec_encodeOut (dest : Operand) (count : WNum) (s : State) :
    exec (.encodeOut dest count) s = complete (encodeOut s.validate dest count.toNat) s :=
  exec_eq_complete_of_specified s rfl

/-- Settles O37: the list is the destination column, so each clause is one of the wrapper's outcomes. -/
theorem outPacksDestinationAndCount : Obligations.OutPacksDestinationAndCount := by
  intro dest count s
  rw [exec_encodeOut, mem_outDestColumn_iff, Bool.not_eq_true, count_rejected_iff]
  refine ⟨?word, ?destination, ?count⟩
  case word =>
    intro h
    rw [encodeOut_eq_ok_iff.mpr ⟨h, rfl⟩, complete_ok, pack_eq_ofNat, toNat_tag_out, selNat]
  case destination =>
    intro hv hdest
    rw [encodeOut_eq_error_iff.mpr ⟨hv, .inl ⟨hdest, rfl⟩⟩, complete_error]
  case count =>
    intro hv hdest hcount
    rw [encodeOut_eq_error_iff.mpr ⟨hv, .inr ⟨hdest, hcount, rfl⟩⟩, complete_error]

end Sys2Proof.Machine
end

section
/-! The PUSH and PULL encoders: they check nothing, and the flags stand in the selector field below the bit that
tells the two classes apart (45 R85 to R87). -/

namespace Sys2Proof.Machine

/-- The row `100 00000 0fb 00000`, whatever the configuration: PUSH has no check to fail (45 R86). -/
theorem exec_encodePush (ifFull block : Bool) (s : State) :
    exec (.encodePush ifFull block) s = .next (afterWord s
      (baseWord 0b100 (0#1 ++ BitVec.ofBool ifFull ++ BitVec.ofBool block) 0)) :=
  exec_of_legal rfl rfl rfl s

/-- The row `100 00000 1fb 00000`, whatever the configuration: PULL has no check to fail (45 R87). -/
theorem exec_encodePull (ifEmpty block : Bool) (s : State) :
    exec (.encodePull ifEmpty block) s = .next (afterWord s
      (baseWord 0b100 (1#1 ++ BitVec.ofBool ifEmpty ++ BitVec.ofBool block) 0)) :=
  exec_of_legal rfl rfl rfl s

/-- Settles O39: each entry of the table is the row of its encoder, with the two flags filled in (45 R85). -/
theorem pushAndPullPackTheirFlags : Obligations.PushAndPullPackTheirFlags := by
  intro s
  exact ⟨exec_encodePush false false s, exec_encodePush false true s,
    exec_encodePush true false s, exec_encodePush true true s,
    exec_encodePull false false s, exec_encodePull false true s,
    exec_encodePull true false s, exec_encodePull true true s⟩

end Sys2Proof.Machine
end

section
/-! NOP (46 R92): the plain MOV of Y into Y. The legality table allows Y on both sides (40 R58), so neither check
of MOV can fail, whatever the configuration. -/

namespace Sys2Proof.Machine

/-- `encode_mov` is its pure operation on the state's configuration, and draws nothing. -/
theorem exec_encodeMov (dest src : Operand) (s : State) :
    exec (.encodeMov dest src) s = complete (encodeMov s.validate .none dest src) s :=
  exec_eq_complete_of_specified s rfl

/-- As `exec_encodeMov`, for `encode_nop`: the operation is MOV's own, with Y on both sides. -/
theorem exec_encodeNop (s : State) : exec .encodeNop s = complete (encodeMov s.validate .none .y .y) s :=
  exec_eq_complete_of_specified s rfl

theorem exec_encodeNop_eq_encodeMov_y_y (s : State) : exec .encodeNop s = exec (.encodeMov .y .y) s :=
  (exec_encodeNop s).trans (exec_encodeMov .y .y s).symm

theorem legal_encodeMov_y_y : legal (.encodeMov .y .y) = true := by decide

/-- The row `101 00000 ddd tt sss` with Y as destination and source, the tag plain (30 R46). -/
theorem opcodeWord_encodeMov_y_y : opcodeWord (.encodeMov .y .y) = 0xA042 := by decide

/-- The MOV of Y into Y is legal, so it yields the word of its row in both configurations. -/
theorem exec_encodeMov_y_y (s : State) : exec (.encodeMov .y .y) s = .next (afterWord s 0xA042) :=
  exec_of_legal rfl legal_encodeMov_y_y opcodeWord_encodeMov_y_y s

/-- Settles O41: NOP is that MOV, so it yields that MOV's word. -/
theorem nopIsMovOfYIntoY : Obligations.NopIsMovOfYIntoY := by
  intro s
  have hmov := exec_encodeNop_eq_encodeMov_y_y s
  exact ⟨hmov, hmov.trans (exec_encodeMov_y_y s)⟩

end Sys2Proof.Machine
end

section
/-! The IRQ encoders: the sub-opcode stands in the selector, the composite IRQ number in the argument field
(47 R93 to R96). -/

namespace Sys2Proof.Machine

theorem toNat_tag_irq : (K.tag .irq).toNat = 0xC000 := rfl

/-- The encoder of a sub-opcode is its pure operation on the state's configuration, and draws nothing. -/
theorem exec_irqInstr (sub : IrqSub) (relative : Bool) (irq : WNum) (s : State) :
    exec (irqInstr sub relative irq) s = complete (encodeIrq s.validate sub relative irq.toNat) s := by
  have hspec : specified (irqInstr sub relative irq) = true := by cases sub <;> rfl
  rw [exec_eq_complete_of_specified s hspec, result_irqInstr]

theorem exec_irqInstr_of_ok {sub : IrqSub} {relative : Bool} {irq : WNum} {s : State}
    (h : s.validate = false ∨ irq.toNat ≤ 7) :
    exec (irqInstr sub relative irq) s = .next (afterWord s (BitVec.ofNat 16
      (0xC000 ||| (K.irqSub sub <<< 5) ||| (((if relative then 0x10 else 0) ||| irq.toNat) &&& 0x1f)))) := by
  rw [exec_irqInstr, encodeIrq_eq_ok_iff.mpr ⟨h, rfl⟩, complete_ok, pack, trunc16, toNat_tag_irq, irqComposite_eq]

/-- The core never aborts after the helper has passed, so the index's abort is the only one (47 R93). -/
theorem exec_irqInstr_of_index_gt {sub : IrqSub} {relative : Bool} {irq : WNum} {s : State}
    (hv : s.validate = true) (hirq : 7 < irq.toNat) :
    exec (irqInstr sub relative irq) s = .fault (.abort .aIrqRange) := by
  rw [exec_irqInstr, encodeIrq_eq_error_iff.mpr ⟨hv, hirq, rfl⟩, complete_error]

/-- The three encoders are the model's IRQ family, each with its sub-opcode. -/
theorem exists_irqSub_of_mem_irqEncoders {relative : Bool} {irq : WNum} {p : Instr × Nat}
    (hp : p ∈ [(Instr.encodeIrqSet relative irq, 0), (Instr.encodeIrqWait relative irq, 1),
      (Instr.encodeIrqClear relative irq, 2)]) :
    ∃ sub, (irqInstr sub relative irq, K.irqSub sub) = p :=
  have hfamily : p ∈ [IrqSub.set, .wait, .clear].map
      fun sub => (irqInstr sub relative irq, K.irqSub sub) := hp
  (List.mem_map.mp hfamily).imp fun _ h => h.2

/-- Settles O42: each encoder is the family's at a sub-opcode, which packs the helper's number or aborts with it. -/
theorem irqEncodersPackSubOpcodeAndIrqNumber : Obligations.IrqEncodersPackSubOpcodeAndIrqNumber := by
  intro relative irq s p hp
  obtain ⟨sub, rfl⟩ := exists_irqSub_of_mem_irqEncoders hp
  exact ⟨exec_irqInstr_of_ok, exec_irqInstr_of_index_gt⟩

end Sys2Proof.Machine
end

section
/-! The delay encoder (49 R100): the count shifted into bits[12:8], checked and never masked. -/

namespace Sys2Proof.Machine

/-- `encode_delay` is its pure operation on the state's configuration, and draws nothing. -/
theorem exec_encodeDelay (cycles : WNum) (s : State) :
    exec (.encodeDelay cycles) s = complete (encodeDelay s.validate cycles.toNat) s :=
  exec_eq_complete_of_specified s rfl

/-- A delay that fits bits[12:8] loses nothing to the cut to 16 bits. -/
theorem toNat_trunc16_shiftLeft_eight {c : Nat} (hc : c ≤ 31) : (trunc16 (c <<< 8)).toNat = c <<< 8 := by
  have hlt : c <<< 8 < 2 ^ 16 := by
    rw [Nat.shiftLeft_eq]
    omega
  rw [trunc16, BitVec.toNat_ofNat, Nat.mod_eq_of_lt hlt]

/-- Settles O44: the word and the abort are the operation's two outcomes; the shift back undoes the shift, and a
count in range is below the mask. -/
theorem delayShiftsByEightAndRoundTrips : Obligations.DelayShiftsByEightAndRoundTrips := by
  intro cycles s
  refine ⟨?word, ?abort, ?roundTrip⟩
  case word =>
    intro h
    rw [exec_encodeDelay, encodeDelay_eq_ok_iff.mpr ⟨h, rfl⟩, complete_ok, trunc16]
  case abort =>
    intro hv hc
    rw [exec_encodeDelay, encodeDelay_eq_error_iff.mpr ⟨hv, hc, rfl⟩, complete_error]
  case roundTrip =>
    intro hc w hw
    obtain ⟨-, rfl⟩ := encodeDelay_eq_ok_iff.mp (result_eq_ok_of_exec hw)
    rw [toNat_trunc16_shiftLeft_eight hc, Nat.shiftLeft_shiftRight]
    exact Nat.and_two_pow_sub_one_of_lt_two_pow (n := 5) (Nat.lt_succ_of_le hc)

end Sys2Proof.Machine
end

section
/-! Bit 12 of the side-set words (49 R104): a flag in the optional form, the value's top bit in the plain one. -/

namespace Sys2Proof.Machine

/-! ## The words of the two forms -/

theorem specified_sidesetInstr {n : WNum} (v : WNum) (hn : n.toNat ≤ 13) : specified (sidesetInstr n v) = true := by
  unfold sidesetInstr
  split_ifs
  case neg => exact decide_eq_true hn
  all_goals rfl

theorem specified_sidesetOptInstr {n : WNum} (v : WNum) (hn : n.toNat ≤ 12) :
    specified (sidesetOptInstr n v) = true := by
  unfold sidesetOptInstr
  split_ifs
  case neg => exact decide_eq_true hn
  all_goals rfl

/-- A legal plain side-set yields the value left-aligned below bit 13, in both configurations (49 R101). -/
theorem exec_sidesetInstr_of_legal {n v : WNum} (s : State) (h1 : 1 ≤ n.toNat) (h5 : n.toNat ≤ 5)
    (hv : v.toNat < 2 ^ n.toNat) :
    exec (sidesetInstr n v) s = .next (afterWord s (trunc16 (v.toNat <<< (13 - n.toNat)))) := by
  have hok : result (sidesetInstr n v) s.validate s.draws = .ok (trunc16 (v.toNat <<< (13 - n.toNat))) := by
    rw [result_sidesetInstr]
    exact encodeSideset_eq_ok_iff.mpr ⟨.inr ⟨h1, h5, Nat.le_pred_of_lt hv⟩, (if_neg (by omega)).symm⟩
  rw [exec_eq_complete_of_specified s (specified_sidesetInstr v (by omega)), hok, complete_ok]

/-- A legal optional side-set yields the flag and, below it, the value, in both configurations (49 R102). -/
theorem exec_sidesetOptInstr_of_legal {n v : WNum} (s : State) (h1 : 1 ≤ n.toNat) (h4 : n.toNat ≤ 4)
    (hv : v.toNat < 2 ^ n.toNat) :
    exec (sidesetOptInstr n v) s =
      .next (afterWord s (trunc16 (0x1000 ||| (v.toNat <<< (12 - n.toNat))))) := by
  have hok : result (sidesetOptInstr n v) s.validate s.draws =
      .ok (trunc16 (0x1000 ||| (v.toNat <<< (12 - n.toNat)))) := by
    rw [result_sidesetOptInstr]
    exact encodeSidesetOpt_eq_ok_iff.mpr ⟨.inr ⟨h1, h4, Nat.le_pred_of_lt hv⟩, (if_neg (by omega)).symm⟩
  rw [exec_eq_complete_of_specified s (specified_sidesetOptInstr v (by omega)), hok, complete_ok]

/-- While the shift amount is not negative, a word of the optional form is the flag and the shifted value, legal
or not (49 R102). -/
theorem eq_trunc16_of_exec_sidesetOptInstr {n v : WNum} {s : State} {w : Word} (hn : n.toNat ≤ 12)
    (h : exec (sidesetOptInstr n v) s = .next (afterWord s w)) :
    w = trunc16 (0x1000 ||| (v.toNat <<< (12 - n.toNat))) := by
  have hres := result_eq_ok_of_exec h
  rw [result_sidesetOptInstr] at hres
  obtain ⟨-, hw⟩ := encodeSidesetOpt_eq_ok_iff.mp hres
  rwa [if_neg (Nat.not_lt.mpr hn)] at hw

/-! ## Bit 12 -/

theorem getLsbD_twelve_trunc16 (x : Nat) : (trunc16 x).getLsbD 12 = x.testBit 12 :=
  (BitVec.getLsbD_ofNat 16 x 12).trans (Bool.true_and _)

/-- ORing the flag sets bit 12 whatever the other bits are, a spilling value's too. -/
theorem getLsbD_twelve_of_flag (x : Nat) : (trunc16 (0x1000 ||| x)).getLsbD 12 = true := by
  have hflag : (0x1000).testBit 12 = true := Nat.testBit_two_pow_self (n := 12)
  rw [getLsbD_twelve_trunc16, Nat.testBit_or, hflag, Bool.true_or]

/-- The top bit of an `n + 1`-bit value tells its upper half. -/
theorem testBit_top_iff {n v : Nat} (hv : v < 2 ^ (n + 1)) : v.testBit n = true ↔ 2 ^ n ≤ v := by
  constructor
  · exact Nat.ge_two_pow_of_testBit
  · exact fun hle => Nat.testBit_of_two_pow_le_and_two_pow_add_one_gt hle hv

/-- The value of a legal plain side-set has its top bit at bit 12 (49 R103, R104). -/
theorem getLsbD_twelve_sideset_iff {n v : Nat} (h1 : 1 ≤ n) (h5 : n ≤ 5) (hv : v < 2 ^ n) :
    (trunc16 (v <<< (13 - n))).getLsbD 12 = true ↔ 2 ^ (n - 1) ≤ v := by
  have hbit : (v <<< (13 - n)).testBit 12 = v.testBit (n - 1) := by
    rw [Nat.testBit_shiftLeft, show 12 - (13 - n) = n - 1 by omega,
      decide_eq_true (show 12 ≥ 13 - n by omega), Bool.true_and]
  rw [getLsbD_twelve_trunc16, hbit]
  exact testBit_top_iff (by rwa [Nat.sub_add_cancel h1])

/-- Settles O49: the flag is ORed in whatever the value, the plain form has the value's top bit there, and the
value 0 leaves the flag alone or nothing. -/
theorem onlyTheOptionalFormSetsBitTwelveAsAFlag : Obligations.OnlyTheOptionalFormSetsBitTwelveAsAFlag := by
  refine ⟨?optional, ?plain, ?zero⟩
  case optional =>
    intro n v s w hn h
    rw [eq_trunc16_of_exec_sidesetOptInstr hn h]
    exact getLsbD_twelve_of_flag _
  case plain =>
    intro n v s h1 h5 hv
    exact ⟨_, exec_sidesetInstr_of_legal s h1 h5 hv, getLsbD_twelve_sideset_iff h1 h5 hv⟩
  case zero =>
    intro n s
    have hlt : (0 : WNum).toNat < 2 ^ n.toNat := Nat.two_pow_pos _
    have hshift (m : Nat) : (0 : WNum).toNat <<< m = 0 := Nat.zero_shiftLeft m
    constructor
    · intro h1 h5
      rw [exec_sidesetInstr_of_legal s h1 h5 hlt, hshift]
      rfl
    · intro h1 h4
      rw [exec_sidesetOptInstr_of_legal s h1 h4 hlt, hshift]
      rfl

end Sys2Proof.Machine
end

section
/-! The request on the input ports (10 R20 to R22): which codes read, what a request keeps of an instruction, and the
step as one invocation of the instruction that is read. -/

namespace Sys2Proof.Machine

/-! ## Codes of the closed enumerations -/

@[simp] theorem classOf_classCode (c : OpClass) : classOf (classCode c) = .ok c := by cases c <;> rfl

@[simp] theorem operandOf_operandCode (o : Operand) : operandOf (operandCode o) = some o := by cases o <;> rfl

theorem classCode_of_classOf {code : BitVec 4} {c : OpClass} (h : classOf code = .ok c) : classCode c = code := by
  unfold classOf at h
  split at h <;> cases h <;> exact (BitVec.eq_of_toNat_eq (by assumption)).symm

theorem operandCode_of_operandOf {code : BitVec 4} {o : Operand} (h : operandOf code = some o) :
    operandCode o = code := by
  unfold operandOf at h
  split at h <;> cases h <;> exact (BitVec.eq_of_toNat_eq (by assumption)).symm

/-- The nine class codes are 0 to 8; every other is named by its refusal (93 U7). -/
theorem classOf_of_gt : ∀ code : BitVec 4, 8 < code.toNat → classOf code = .error (.classOutside code) := by decide

theorem exists_classOf_of_le {code : BitVec 4} (h : code.toNat ≤ 8) : ∃ c, classOf code = .ok c := by
  have hread : ∀ code : BitVec 4, code.toNat ≤ 8 → (classOf code).isOk = true := by decide
  cases hc : classOf code with
  | ok c => exact ⟨c, rfl⟩
  | error e => simpa [hc, Except.isOk, Except.toBool] using hread code h

/-- The nine operand codes are 0 to 8 (40 R55). -/
theorem operandOf_of_gt : ∀ code : BitVec 4, 8 < code.toNat → operandOf code = none := by decide

theorem exists_operandOf_of_le {code : BitVec 4} (h : code.toNat ≤ 8) : ∃ o, operandOf code = some o := by
  have hread : ∀ code : BitVec 4, code.toNat ≤ 8 → (operandOf code).isSome = true := by decide
  exact Option.isSome_iff_exists.mp (hread code h)

theorem operandA_of_operandOf {r : Request} {o : Operand} (h : operandOf r.opdA = some o) : operandA r = .ok o := by
  rw [operandA, h]

theorem operandB_of_operandOf {r : Request} {o : Operand} (h : operandOf r.opdB = some o) : operandB r = .ok o := by
  rw [operandB, h]

theorem operandA_of_gt {r : Request} (h : 8 < r.opdA.toNat) : operandA r = .error (.operandAOutside r.opdA) := by
  rw [operandA, operandOf_of_gt _ h]

theorem operandB_of_gt {r : Request} (h : 8 < r.opdB.toNat) : operandB r = .error (.operandBOutside r.opdB) := by
  rw [operandB, operandOf_of_gt _ h]

theorem operandCode_of_operandA {r : Request} {o : Operand} (h : operandA r = .ok o) : operandCode o = r.opdA := by
  unfold operandA at h
  split at h <;> cases h
  exact operandCode_of_operandOf (by assumption)

theorem operandCode_of_operandB {r : Request} {o : Operand} (h : operandB r = .ok o) : operandCode o = r.opdB := by
  unfold operandB at h
  split at h <;> cases h
  exact operandCode_of_operandOf (by assumption)

/-! ## Every well-formed instruction reads back -/

@[simp] theorem encode_encodeArgsInstr (c : OpClass) (k g : WNum) :
    encode (encodeArgsInstr c k g) = argsRequest c k g := by cases c <;> rfl

@[simp] theorem encode_encodeArgsWithOperandInstr (c : OpClass) (o : Operand) (g : WNum) :
    encode (encodeArgsWithOperandInstr c o g) = operandRequest c o g := by cases c <;> rfl

@[simp] theorem encode_sidesetInstr (n e : WNum) :
    encode (sidesetInstr n e) = { blankRequest 26 with numA := n, numB := e } := by
  unfold sidesetInstr
  split_ifs <;> subst_vars <;> rfl

@[simp] theorem encode_sidesetOptInstr (n e : WNum) :
    encode (sidesetOptInstr n e) = { blankRequest 27 with numA := n, numB := e } := by
  unfold sidesetOptInstr
  split_ifs <;> subst_vars <;> rfl

/-- Reading goes on with the operand that stands on `opd_a`. -/
theorem operandA_bind {r : Request} (o : Operand) (f : Operand → Except RequestError Instr)
    (h : r.opdA = operandCode o) : (operandA r >>= f) = f o := by
  rw [operandA_of_operandOf (h ▸ operandOf_operandCode o)]
  rfl

/-- Reading goes on with the operand that stands on `opd_b`. -/
theorem operandB_bind {r : Request} (o : Operand) (f : Operand → Except RequestError Instr)
    (h : r.opdB = operandCode o) : (operandB r >>= f) = f o := by
  rw [operandB_of_operandOf (h ▸ operandOf_operandCode o)]
  rfl

theorem decode_argsRequest (c : OpClass) (k g : WNum) :
    decode (argsRequest c k g) = .ok (encodeArgsInstr c k g) := by
  change (classOf (classCode c) >>= fun c => pure (encodeArgsInstr c k g)) = _
  rw [classOf_classCode]
  rfl

theorem decode_operandRequest (c : OpClass) (o : Operand) (g : WNum) :
    decode (operandRequest c o g) = .ok (encodeArgsWithOperandInstr c o g) := by
  change (classOf (classCode c) >>= fun c => operandA (operandRequest c o g) >>=
    fun o => pure (encodeArgsWithOperandInstr c o g)) = _
  rw [classOf_classCode]
  exact operandA_bind o _ rfl

/-- Settles O3: a class or operand code reads back as what it stands for, and the other ports are read as they
are; a side-set's bit count picks the row again, unless the term was ill formed. -/
theorem everyInstructionReadsBackFromThePorts : Obligations.EveryInstructionReadsBackFromThePorts := by
  intro i hwf
  induction i, hwf using wellFormed_cases with
  | args c k g => rw [encode_encodeArgsInstr, decode_argsRequest]
  | withOperand c o g => rw [encode_encodeArgsWithOperandInstr, decode_operandRequest]
  | jmp c a => cases c <;> rfl
  | in_ o c => exact operandA_bind o _ rfl
  | out o c => exact operandA_bind o _ rfl
  | mov op d o =>
    cases op <;> exact (operandA_bind d _ rfl).trans (operandB_bind o _ rfl)
  | irq sub r n => cases sub <;> rfl
  | set o x => exact operandA_bind o _ rfl
  | sideset n e =>
    rw [encode_sidesetInstr]
    rfl
  | sidesetOpt n e =>
    rw [encode_sidesetOptInstr]
    rfl
  | waitGpio | waitPin | waitIrq | push | pull | nop | delay => rfl

/-! ## The ports an operation names -/

/-- A request with zero on every port that its operation does not name (10 R22). -/
def keepNamed (r : Request) : Request where
  op := r.op
  cls := if .cls ∈ namedPorts r.op.toNat then r.cls else 0
  opdA := if .opdA ∈ namedPorts r.op.toNat then r.opdA else 0
  opdB := if .opdB ∈ namedPorts r.op.toNat then r.opdB else 0
  numA := if .numA ∈ namedPorts r.op.toNat then r.numA else 0
  numB := if .numB ∈ namedPorts r.op.toNat then r.numB else 0
  flagA := decide (.flagA ∈ namedPorts r.op.toNat) && r.flagA
  flagB := decide (.flagB ∈ namedPorts r.op.toNat) && r.flagB

theorem agreeOn_keepNamed {r : Request} {p : Port} (hp : p ∈ namedPorts r.op.toNat) : agreeOn (keepNamed r) r p := by
  cases p <;> simp [agreeOn, keepNamed, hp]

theorem keepNamed_congr {r r' : Request} (hop : r.op = r'.op)
    (h : ∀ p ∈ namedPorts r.op.toNat, agreeOn r r' p) : keepNamed r = keepNamed r' := by
  have hif (p : Port) {α : Type} {x y z : α} (hxy : p ∈ namedPorts r'.op.toNat → x = y) :
      (if p ∈ namedPorts r'.op.toNat then x else z) = if p ∈ namedPorts r'.op.toNat then y else z :=
    ite_congr rfl hxy fun _ => rfl
  have hand (p : Port) {x y : Bool} (hxy : p ∈ namedPorts r'.op.toNat → x = y) :
      (decide (p ∈ namedPorts r'.op.toNat) && x) = (decide (p ∈ namedPorts r'.op.toNat) && y) := by
    by_cases hp : p ∈ namedPorts r'.op.toNat
    · rw [hxy hp]
    · simp [hp]
  rw [hop] at h
  simp only [keepNamed, hop, hif .cls (h .cls), hif .opdA (h .opdA), hif .opdB (h .opdB), hif .numA (h .numA),
    hif .numB (h .numB), hand .flagA (h .flagA), hand .flagB (h .flagB)]

/-- Reading looks at no port that the operation does not name. -/
theorem decode_keepNamed (r : Request) : decode (keepNamed r) = decode r := by
  obtain ⟨⟨n, hn⟩, cls, opdA, opdB, numA, numB, flagA, flagB⟩ := r
  interval_cases n <;> rfl

theorem operationNumber_eq (i : Instr) : operationNumber i = (encode i).op.toNat := by
  cases i <;> rfl

theorem wellFormed_sidesetInstr (n e : WNum) : (sidesetInstr n e).wellFormed = true := by
  unfold sidesetInstr
  split_ifs with h1 h2 h3 h4
  case neg => exact decide_eq_true (by bv_omega)
  all_goals rfl

theorem wellFormed_sidesetOptInstr (n e : WNum) : (sidesetOptInstr n e).wellFormed = true := by
  unfold sidesetOptInstr
  split_ifs with h1 h2 h3
  case neg => exact decide_eq_true (by bv_omega)
  all_goals rfl

/-- Reading goes on only after a code that reads. -/
theorem exists_of_bind_eq_ok {α : Type} {x : Except RequestError α} {f : α → Except RequestError Instr} {i : Instr}
    (h : (x >>= f) = .ok i) : ∃ a, x = .ok a ∧ f a = .ok i := by
  cases x with
  | ok a => exact ⟨a, rfl, h⟩
  | error e => cases h

/-- The operation numbers by what the operation reads (10 R21, R22): class, class and operand, one operand, two
operands, a side-set's bit count, or numbers and flags alone; 28 and above are no operation. -/
theorem operation_groups {n : Nat} (hn : n < 32) :
    n = 0 ∨ n = 1 ∨ (n = 13 ∨ n = 14 ∨ n = 24) ∨ (n = 17 ∨ n = 18 ∨ n = 19) ∨ (n = 26 ∨ n = 27) ∨ 28 ≤ n ∨
      ((2 ≤ n ∧ n ≤ 12) ∨ (15 ≤ n ∧ n ≤ 16) ∨ (20 ≤ n ∧ n ≤ 23) ∨ n = 25) := by
  omega

/-- WHAT READING KEEPS: a request that reads as an instruction is, on the ports its operation names, the request
for that instruction. By the operation number, as `decode` reads. -/
theorem encode_of_decode {r : Request} {i : Instr} (h : decode r = .ok i) :
    i.wellFormed = true ∧ encode i = keepNamed r := by
  obtain ⟨⟨n, hn⟩, cls, opdA, opdB, numA, numB, flagA, flagB⟩ := r
  rcases operation_groups hn with rfl | rfl | hone | htwo | hsideset | hnone | hplain
  · obtain ⟨c, hc, h⟩ := exists_of_bind_eq_ok h
    cases h
    obtain rfl := classCode_of_classOf hc
    exact ⟨by cases c <;> rfl, encode_encodeArgsInstr c numA numB⟩
  · obtain ⟨c, hc, h⟩ := exists_of_bind_eq_ok h
    obtain ⟨o, ho, h⟩ := exists_of_bind_eq_ok h
    cases h
    obtain rfl := classCode_of_classOf hc
    obtain rfl := operandCode_of_operandA ho
    exact ⟨by cases c <;> rfl, encode_encodeArgsWithOperandInstr c o numB⟩
  · rcases hone with rfl | rfl | rfl
    all_goals
      obtain ⟨o, ho, h⟩ := exists_of_bind_eq_ok h
      cases h
      obtain rfl := operandCode_of_operandA ho
      exact ⟨rfl, rfl⟩
  · rcases htwo with rfl | rfl | rfl
    all_goals
      obtain ⟨d, hd, h⟩ := exists_of_bind_eq_ok h
      obtain ⟨o, ho, h⟩ := exists_of_bind_eq_ok h
      cases h
      obtain rfl := operandCode_of_operandA hd
      obtain rfl := operandCode_of_operandB ho
      exact ⟨rfl, rfl⟩
  · rcases hsideset with rfl | rfl <;> cases h
    · exact ⟨wellFormed_sidesetInstr numA numB, encode_sidesetInstr numA numB⟩
    · exact ⟨wellFormed_sidesetOptInstr numA numB, encode_sidesetOptInstr numA numB⟩
  · interval_cases n <;> cases h
  · rcases hplain with ⟨hlo, hhi⟩ | ⟨hlo, hhi⟩ | ⟨hlo, hhi⟩ | rfl
    case inr.inr.inr =>
      cases h
      exact ⟨rfl, rfl⟩
    all_goals
      interval_cases n <;> cases h <;> exact ⟨rfl, rfl⟩

/-- Settles O4: the request that names the instruction keeps the named ports and no other. -/
theorem readingTheRequestLosesNoNamedPort : Obligations.ReadingTheRequestLosesNoNamedPort := by
  intro r i h
  obtain ⟨hwf, hi⟩ := encode_of_decode h
  rw [operationNumber_eq, hi]
  exact ⟨hwf, rfl, rfl, fun p hp => agreeOn_keepNamed hp⟩

/-! ## The step -/

theorem step_of_decode {s : State} {i : Instr} (h : decode s.inputs = .ok i) : step s = exec i s := by
  rw [step, evaluate, fetch, h]

theorem step_of_decode_error {s : State} {why : RequestError} (h : decode s.inputs = .error why) :
    step s = .refused (.noSuchRequest why) := by
  rw [step, evaluate, fetch, h]

/-- Settles O1: what the ports read as is what the step executes. -/
theorem stepRunsTheRequestOnThePorts : Obligations.StepRunsTheRequestOnThePorts :=
  fun _ _ h _ => step_of_decode h

/-- The output ports after a step depend on what the input ports read as, VALIDATE and the draw count. -/
theorem portView_step_congr {s t : State} (hr : decode s.inputs = decode t.inputs)
    (hv : s.validate = t.validate) (hd : s.draws = t.draws) : portView (step s) = portView (step t) := by
  cases h : decode t.inputs with
  | ok i => rw [step_of_decode h, step_of_decode (hr.trans h), portView_exec_congr i hv hd]
  | error why => rw [step_of_decode_error h, step_of_decode_error (hr.trans h)]

/-- Settles O5: two requests that agree on the named ports are the same once the other ports are blanked. -/
theorem unnamedInputsAreIgnored : Obligations.UnnamedInputsAreIgnored := by
  intro s r r' hop hagree
  have hread : decode r = decode r' := by
    rw [← decode_keepNamed r, keepNamed_congr hop hagree, decode_keepNamed]
  exact ⟨hread, portView_step_congr (s := s.present r) (t := s.present r') hread rfl rfl⟩

/-! ## Codes outside the enumerations -/

theorem decode_of_op_gt {r : Request} (h : 27 < r.op.toNat) : decode r = .error (.opOutside r.op) := by
  obtain ⟨⟨n, hn⟩, cls, opdA, opdB, numA, numB, flagA, flagB⟩ := r
  have h : 27 < n := h
  interval_cases n <;> rfl

/-- The class is read first, where an operation names it. -/
theorem decode_of_classOf_error {r : Request} {e : RequestError} (hop : r.op.toNat ≤ 1)
    (hc : classOf r.cls = .error e) : decode r = .error e := by
  obtain hop | hop : r.op.toNat = 0 ∨ r.op.toNat = 1 := by omega
  all_goals
    rw [decode, hop]
    simp [hc, bind, Except.bind]

/-- An operand on `opd_a` that does not read is what the operation is refused for, once its class has read. -/
theorem decode_of_operandA_error {r : Request} {e : RequestError}
    (hop : r.op.toNat = 1 ∨ r.op.toNat = 13 ∨ r.op.toNat = 14 ∨ (17 ≤ r.op.toNat ∧ r.op.toNat ≤ 19) ∨
      r.op.toNat = 24)
    (hc : r.op.toNat = 1 → ∃ c, classOf r.cls = .ok c) (ha : operandA r = .error e) : decode r = .error e := by
  by_cases h1 : r.op.toNat = 1
  case pos =>
    obtain ⟨c, hc⟩ := hc h1
    rw [decode, h1]
    simp [hc, ha, bind, Except.bind]
  case neg =>
    obtain hop | hop | hop | hop | hop | hop : r.op.toNat = 13 ∨ r.op.toNat = 14 ∨ r.op.toNat = 17 ∨
      r.op.toNat = 18 ∨ r.op.toNat = 19 ∨ r.op.toNat = 24 := by omega
    all_goals
      rw [decode, hop]
      simp [ha, bind, Except.bind]

/-- The MOV operations read `opd_b` after `opd_a`. -/
theorem decode_of_operandB_error {r : Request} {d : Operand} {e : RequestError}
    (hop : 17 ≤ r.op.toNat ∧ r.op.toNat ≤ 19) (ha : operandA r = .ok d) (hb : operandB r = .error e) :
    decode r = .error e := by
  obtain hop | hop | hop : r.op.toNat = 17 ∨ r.op.toNat = 18 ∨ r.op.toNat = 19 := by omega
  all_goals
    rw [decode, hop]
    simp [ha, hb, bind, Except.bind]

/-- A request whose operation exists reads as an instruction when every code that the operation names does. -/
theorem exists_decode_eq_ok {r : Request} (hop : r.op.toNat ≤ 27)
    (hc : r.op.toNat ≤ 1 → ∃ c, classOf r.cls = .ok c)
    (ha : r.op.toNat = 1 ∨ r.op.toNat = 13 ∨ r.op.toNat = 14 ∨ (17 ≤ r.op.toNat ∧ r.op.toNat ≤ 19) ∨
      r.op.toNat = 24 → ∃ o, operandA r = .ok o)
    (hb : 17 ≤ r.op.toNat ∧ r.op.toNat ≤ 19 → ∃ o, operandB r = .ok o) : ∃ i, decode r = .ok i := by
  generalize hn : r.op.toNat = n at hop hc ha hb
  rw [decode, hn]
  rcases operation_groups (Nat.lt_of_le_of_lt hop (by decide)) with
    rfl | rfl | hone | htwo | hsideset | hnone | hplain
  · obtain ⟨c, hc⟩ := hc (by decide)
    exact ⟨_, by rw [hc]; rfl⟩
  · obtain ⟨c, hc⟩ := hc (by decide)
    obtain ⟨o, ho⟩ := ha (by decide)
    exact ⟨_, by rw [hc, ho]; rfl⟩
  · obtain ⟨o, ho⟩ := ha (by omega)
    rcases hone with rfl | rfl | rfl <;> exact ⟨_, by rw [ho]; rfl⟩
  · obtain ⟨d, hd⟩ := ha (by omega)
    obtain ⟨o, ho⟩ := hb (by omega)
    rcases htwo with rfl | rfl | rfl <;> exact ⟨_, by rw [hd, ho]; rfl⟩
  · rcases hsideset with rfl | rfl <;> exact ⟨_, rfl⟩
  · omega
  · rcases hplain with ⟨hlo, hhi⟩ | ⟨hlo, hhi⟩ | ⟨hlo, hhi⟩ | rfl
    case inr.inr.inr => exact ⟨_, rfl⟩
    all_goals interval_cases n <;> exact ⟨_, rfl⟩

/-- Settles O2: a code above 8 does not read and one up to 8 does, and the class, `opd_a` and `opd_b` are read in
this order. -/
theorem codesOutsideTheEnumerationsAreRefused : Obligations.CodesOutsideTheEnumerationsAreRefused := by
  intro s op badClass badA badB
  have hclass (hbad : ¬ badClass) (hop : op ≤ 1) : ∃ c, classOf s.inputs.cls = .ok c :=
    exists_classOf_of_le (Nat.not_lt.mp fun h => hbad ⟨hop, h⟩)
  have hoperandA (hle : s.inputs.opdA.toNat ≤ 8) : ∃ o, operandA s.inputs = .ok o :=
    (exists_operandOf_of_le hle).imp fun _ => operandA_of_operandOf
  have hoperandB (hle : s.inputs.opdB.toNat ≤ 8) : ∃ o, operandB s.inputs = .ok o :=
    (exists_operandOf_of_le hle).imp fun _ => operandB_of_operandOf
  refine ⟨?operation, ?classCode, ?codeA, ?codeB, ?reads⟩
  case operation => exact fun h => step_of_decode_error (decode_of_op_gt h)
  case classCode =>
    rintro ⟨hop, hc⟩
    exact step_of_decode_error (decode_of_classOf_error hop (classOf_of_gt _ hc))
  case codeA =>
    rintro hcls ⟨hop, ha⟩
    exact step_of_decode_error (decode_of_operandA_error hop (fun h => hclass hcls h.le) (operandA_of_gt ha))
  case codeB =>
    rintro hA ⟨hop, hb⟩
    obtain ⟨d, hd⟩ := hoperandA (Nat.not_lt.mp fun h => hA ⟨.inr (.inr (.inr (.inl hop))), h⟩)
    exact step_of_decode_error (decode_of_operandB_error hop hd (operandB_of_gt hb))
  case reads =>
    intro hop hcls hA hB
    exact exists_decode_eq_ok hop (hclass hcls) (fun h => hoperandA (Nat.not_lt.mp fun ha => hA ⟨h, ha⟩))
      (fun h => hoperandB (Nat.not_lt.mp fun hb => hB ⟨h, hb⟩))

end Sys2Proof.Machine
end

section
/-! What an invocation leaves: the frame of every instruction, and the outputs as a function of the request and
VALIDATE (10 R22 to R27, 20 R33, R34). -/

namespace Sys2Proof.Machine

/-! ## Next states -/

/-- An instruction answers a next state exactly when its operation yields a word, and then only the output ports
and the draw count move. -/
theorem exec_eq_next_iff {i : Instr} {s t : State} :
    exec i s = .next t ↔
      ∃ w, result i s.validate s.draws = .ok w ∧ t = afterWord (s.drawn (!specified i)) w := by
  rw [exec_eq_complete, complete_eq_next_iff]

/-- A step answers a next state exactly when the ports read as an instruction that does. -/
theorem step_eq_next_iff {s t : State} : step s = .next t ↔ ∃ i, decode s.inputs = .ok i ∧ exec i s = .next t := by
  cases h : decode s.inputs with
  | ok i => simp [step_of_decode h]
  | error why => simp [step_of_decode_error h]

/-- Settles O16: driving the word and counting the draw touch no strap and no input port. -/
theorem noOperationChangesStrapsOrInputs : Obligations.NoOperationChangesStrapsOrInputs := by
  intro i s t h
  obtain ⟨w, -, rfl⟩ := exec_eq_next_iff.mp h
  refine ⟨rfl, rfl, rfl, rfl, ?draws⟩
  case draws => cases specified i <;> simp

theorem validate_of_exec {i : Instr} {s t : State} (h : exec i s = .next t) : t.validate = s.validate := by
  obtain ⟨w, -, rfl⟩ := exec_eq_next_iff.mp h
  rfl

theorem outputs_of_exec {i : Instr} {s t : State} (h : exec i s = .next t) :
    ∃ w, t.outputs = some { word := some w, abort := false, cause := 0 } := by
  obtain ⟨w, -, rfl⟩ := exec_eq_next_iff.mp h
  exact ⟨w, rfl⟩

/-- Where the result is specified, only the output ports move. -/
theorem exists_eq_afterWord_of_exec {i : Instr} {s t : State} (hspec : specified i = true)
    (h : exec i s = .next t) : ∃ w, t = afterWord s w := by
  obtain ⟨w, -, rfl⟩ := exec_eq_next_iff.mp h
  exact ⟨w, by rw [hspec]; rfl⟩

/-! ## Purity -/

/-- The free value plays no part while the shift amount is not negative (49 R105). -/
theorem sidesetResult_congr_draws {form : SidesetForm} {n : Nat} (hn : n ≤ K.sidesetTop form) (x : Nat) (v : Bool)
    (draws draws' : Nat) : sidesetResult form n x v draws = sidesetResult form n x v draws' := by
  have hn : ¬ K.sidesetTop form < n := Nat.not_lt.mpr hn
  cases form <;> simp only [sidesetResult, encodeSideset, encodeSidesetOpt, if_neg hn]

theorem result_congr_draws {i : Instr} (hspec : specified i = true) (v : Bool) (draws draws' : Nat) :
    result i v draws = result i v draws' := by
  cases i
  case encodeSideset5 n e | encodeSidesetOpt4 n e =>
    simp only [result]
    refine sidesetResult_congr_draws ?_ ..
    exact of_decide_eq_true hspec
  case encodeSideset1 | encodeSideset2 | encodeSideset3 | encodeSideset4 | encodeSidesetOpt1 | encodeSidesetOpt2 |
      encodeSidesetOpt3 =>
    simp only [result]
    exact sidesetResult_congr_draws (by decide) ..
  all_goals rfl

/-- What is shown of a specified result depends on VALIDATE alone (10 R24). -/
theorem portView_exec_of_specified {i : Instr} {s t : State} (hspec : specified i = true)
    (hv : s.validate = t.validate) : portView (exec i s) = portView (exec i t) := by
  rw [exec_eq_complete, exec_eq_complete, portView_complete, portView_complete, hv,
    result_congr_draws hspec t.validate s.draws t.draws]

/-- Settles O13: VALIDATE decides a specified result, VALIDATE and the draw count every result. -/
theorem outcomeDependsOnlyOnTheRequestAndTheGate : Obligations.OutcomeDependsOnlyOnTheRequestAndTheGate := by
  rintro i s s' hv (hspec | hd)
  · exact portView_exec_of_specified hspec hv
  · exact portView_exec_congr i hv hd

/-- As `portView_exec_of_specified`, for the step. -/
theorem portView_step_of_specified {s t : State} (hr : s.inputs = t.inputs) (hv : s.validate = t.validate)
    (hspec : ∀ i, decode t.inputs = .ok i → specified i = true) : portView (step s) = portView (step t) := by
  rw [← hr] at hspec
  cases h : decode s.inputs with
  | ok i => rw [step_of_decode h, step_of_decode (hr ▸ h), portView_exec_of_specified (hspec i h) hv]
  | error why => rw [step_of_decode_error h, step_of_decode_error (hr ▸ h)]

theorem frame_of_step {s t : State} (h : step s = .next t) : t.validate = s.validate ∧ t.inputs = s.inputs := by
  obtain ⟨i, -, h⟩ := step_eq_next_iff.mp h
  obtain ⟨-, -, -, hinputs, -⟩ := noOperationChangesStrapsOrInputs i s t h
  exact ⟨validate_of_exec h, hinputs⟩

/-- Settles O14: a step leaves VALIDATE, and a specified outcome depends on nothing else of the state. -/
theorem earlierInvocationsDoNotInfluenceLaterOnes : Obligations.EarlierInvocationsDoNotInfluenceLaterOnes := by
  intro s t r h hspec
  obtain ⟨hv, -⟩ := frame_of_step h
  exact portView_step_of_specified (s := t.present r) (t := s.present r) rfl hv hspec

/-- Settles O15: the state after is the state before with a word on its outputs, which yields that word again. -/
theorem repeatingAnInvocationChangesNothing : Obligations.RepeatingAnInvocationChangesNothing := by
  intro s t h hspec
  obtain ⟨i, hi, h⟩ := step_eq_next_iff.mp h
  obtain ⟨w, rfl⟩ := exists_eq_afterWord_of_exec (hspec i hi) h
  have hw := result_eq_ok_of_exec h
  rw [step_of_decode (s := afterWord s w) hi, exec_eq_complete_of_specified _ (hspec i hi), afterWord_validate,
    afterWord_draws, hw, complete_ok, afterWord_afterWord]

/-- Settles O17: the step's own outcome is on the output ports, and it is the outcome of the request that still
stands, in a state that differs at most in what a specified result does not depend on. -/
theorem everyStepLeavesTheOutputsSettled : Obligations.EveryStepLeavesTheOutputsSettled := by
  intro s t h
  obtain ⟨hv, hinputs⟩ := frame_of_step h
  refine ⟨?settled, ?word⟩
  case settled =>
    intro hspec
    rw [← portView_step_of_specified hinputs.symm hv.symm hspec, h, portView]
  case word =>
    obtain ⟨i, -, hexec⟩ := step_eq_next_iff.mp h
    exact outputs_of_exec hexec

/-! ## The outputs at every instant -/

/-- Outputs that follow their inputs show the outcome of the request that stands (10 R26). -/
theorem outputs_settle (s : State) : s.settle.outputs = portView (step s.settle) :=
  State.combinational_congr (s := s) (t := s.settle) rfl rfl rfl

theorem settled_settle (s : State) : Settled s.settle := fun _ => outputs_settle s

/-- Settles O59: presenting a request and setting the straps both end with the outputs following the inputs. -/
theorem outputsFollowTheInputsAtEveryInstant : Obligations.OutputsFollowTheInputsAtEveryInstant := by
  refine ⟨?inputs, ?straps, ?tableWord⟩
  case inputs =>
    intro s r
    refine ⟨?frame, settled_settle _, ?outcome, ?noOutcome⟩
    case frame =>
      exact congrArg (fun p => ({ s with inputs := r, outputs := p } : State)) (outputs_settle { s with inputs := r })
    case outcome =>
      intro i hi
      rw [State.present, outputs_settle, step_of_decode hi]
      exact portView_exec_congr i rfl rfl
    case noOutcome =>
      intro why hwhy
      rw [State.present, outputs_settle, step_of_decode_error hwhy, portView]
  case straps =>
    intro s m e d
    exact ⟨congrArg (fun p => ({ withStraps s m e d with outputs := p } : State)) (outputs_settle _),
      settled_settle _⟩
  case tableWord => exact fun s nbits w => ⟨outputs_settle _, settled_settle _⟩

theorem step_reset : step State.reset = .next State.reset := rfl

/-- At reset the straps make no difference to the outputs: the request that stands is legal. -/
theorem withStraps_reset (m e d : Bool) :
    withStraps State.reset m e d = { State.reset with valModule := m, valEnableAll := e, valDisableAll := d } := by
  cases m <;> cases e <;> cases d <;> rfl

/-- Settles O18: the reset state is what one step from it answers, in every strap setting. -/
theorem resetOutputsAreSettled : Obligations.ResetOutputsAreSettled := by
  refine ⟨fun _ => by rw [step_reset, portView], step_reset, rfl, fun m e d => ⟨?_, withStraps_reset m e d⟩⟩
  rw [← withStraps_reset]
  exact settled_settle _

end Sys2Proof.Machine
end

section
/-! The validation gate and the abort: which checks an instruction makes, which failed check decides, and what the
output ports then show (10 R18, R23; 60 R109, R110, R115). -/

namespace Sys2Proof.Machine

/-! ## Ill-formed terms -/

/-- A term that carries the bit count of another row is that row under another name: nothing of what an instruction
does tells it from a well-formed one (entry 6). -/
theorem exists_wellFormed_like (i : Instr) : ∃ j : Instr, j.wellFormed = true ∧ checks j = checks i ∧
    specified j = specified i ∧ (∀ v draws, result j v draws = result i v draws) ∧ ∀ s, exec j s = exec i s := by
  by_cases hwf : i.wellFormed = true
  case pos => exact ⟨i, hwf, rfl, rfl, fun _ _ => rfl, fun _ => rfl⟩
  case neg =>
    obtain ⟨j, hj, hchecks, hspec, hresult⟩ : ∃ j : Instr, j.wellFormed = true ∧ checks j = checks i ∧
        specified j = specified i ∧ ∀ v draws, result j v draws = result i v draws := by
      cases i
      case encodeSideset5 n e =>
        have hn : ¬ (n = 0 ∨ 5 ≤ n.toNat) := fun h => hwf (decide_eq_true h)
        have hspec : specified (.encodeSideset5 n e) = true := decide_eq_true (by omega)
        exact ⟨sidesetInstr n e, wellFormed_sidesetInstr n e, checks_sidesetInstr n e,
          (specified_sidesetInstr e (by omega)).trans hspec.symm, result_sidesetInstr n e⟩
      case encodeSidesetOpt4 n e =>
        have hn : ¬ (n = 0 ∨ 4 ≤ n.toNat) := fun h => hwf (decide_eq_true h)
        have hspec : specified (.encodeSidesetOpt4 n e) = true := decide_eq_true (by omega)
        exact ⟨sidesetOptInstr n e, wellFormed_sidesetOptInstr n e, checks_sidesetOptInstr n e,
          (specified_sidesetOptInstr e (by omega)).trans hspec.symm, result_sidesetOptInstr n e⟩
      all_goals exact absurd rfl hwf
    exact ⟨j, hj, hchecks, hspec, hresult, fun s => by rw [exec_eq_complete, exec_eq_complete, hresult, hspec]⟩

/-! ## The first failed check -/

/-- The cause of the first check of a list that fails. -/
def firstFailed (l : List (Bool × Cause)) : Option Cause := (l.find? fun c => !c.1).map fun c => c.2

theorem firstFailure_eq (i : Instr) : firstFailure i = firstFailed (checks i) := rfl

@[simp] theorem firstFailed_nil : firstFailed [] = none := rfl

@[simp] theorem firstFailed_cons_eq_some_iff (p : Bool × Cause) (l : List (Bool × Cause)) (k : Cause) :
    firstFailed (p :: l) = some k ↔ (p.1 = false ∧ k = p.2) ∨ (p.1 = true ∧ firstFailed l = some k) := by
  obtain ⟨b, c⟩ := p
  cases b <;> simp [firstFailed, eq_comm]

theorem firstFailed_eq_none_iff (l : List (Bool × Cause)) : firstFailed l = none ↔ (l.all fun c => c.1) = true := by
  simp [firstFailed]

/-- The first failed check is one of the checks, and it fails. -/
theorem mem_of_firstFailed {l : List (Bool × Cause)} {c : Cause} (h : firstFailed l = some c) : (false, c) ∈ l := by
  obtain ⟨⟨b, c'⟩, hfind, rfl⟩ := Option.map_eq_some_iff.mp h
  have hb := List.find?_some hfind
  have hmem := List.mem_of_find?_eq_some hfind
  cases b
  case false => exact hmem
  case true => cases hb

theorem firstFailure_eq_none_iff (i : Instr) : firstFailure i = none ↔ legal i = true :=
  firstFailed_eq_none_iff (checks i)

@[simp] theorem argumentCheck_snd (c : OpClass) (g : WNum) :
    (argumentCheck c g).2 = if c = .in_ ∨ c = .out then .aArgRangeInout else .aArgRange := by
  cases c <;> rfl

@[simp] theorem argumentCheck_fst_eq_false (c : OpClass) (g : WNum) :
    (argumentCheck c g).1 = false ↔ ¬ argumentInRange c g.toNat := by
  rw [← argumentCheck_fst, Bool.not_eq_true]

/-- While the selector fits its field, the core aborts only on its argument (41 R64). -/
theorem encodeArgs_eq_error_iff_of_le {v : Bool} {cls : OpClass} {k g : Nat} {c : Cause} (hk : k ≤ 7) :
    encodeArgs v cls k g = .error c ↔ v = true ∧ ¬ argumentInRange cls g ∧
      c = if cls = .in_ ∨ cls = .out then Cause.aArgRangeInout else .aArgRange := by
  rw [encodeArgs_eq_error_iff]
  simp [hk, Nat.not_lt.mpr hk]

/-- AN OPERATION ABORTS exactly when VALIDATE is 1 and some check fails, with the first one's cause (60 R115). -/
theorem result_eq_error_iff_of_wellFormed {i : Instr} {v : Bool} {draws : Nat} {k : Cause}
    (hwf : i.wellFormed = true) :
    result i v draws = .error k ↔ v = true ∧ firstFailure i = some k := by
  rw [firstFailure_eq]
  induction i, hwf using wellFormed_cases with
  | args c k g => simp [encodeArgs_eq_error_iff, coreChecks]
  | withOperand c o g => simp [encodeArgsWithOperand_eq_error_iff]
  | jmp c a => simp [encodeArgs_eq_error_iff_of_le (jmpCond_le c)]
  | waitGpio p x => simp [result, checks, encodeArgs_eq_error_iff_of_le (waitSelector_le _ p)]
  | waitPin p x => simp [result, checks, encodeArgs_eq_error_iff_of_le (waitSelector_le _ p)]
  | waitIrq p r n => simp [result, checks, encodeWaitIrq_eq_error_iff, irqCheck]
  | in_ o c => simp [result, checks, encodeIn_eq_error_iff, argumentCheck]
  | out o c => simp [result, checks, encodeOut_eq_error_iff, argumentCheck]
  | push f b => simp [result, checks, encodeArgs_eq_error_iff_of_le (ppSelector_le_seven f b), argumentInRange]
  | pull f b => simp [result, checks, encodeArgs_eq_error_iff_of_le (ppSelector_le_seven f b), argumentInRange]
  | mov op d o => simp [encodeMov_eq_error_iff, movChecks]
  | nop => simp [result, checks, encodeMov_eq_error_iff, K.forbid]
  | irq sub r n => simp [encodeIrq_eq_error_iff, irqCheck]
  | set o x => simp [result, checks, encodeSet_eq_error_iff, argumentCheck]
  | delay c => simp [result, checks, encodeDelay_eq_error_iff]
  | sideset n e => simp [sidesetResult, encodeSideset_eq_error_iff, sidesetChecks, and_assoc]
  | sidesetOpt n e => simp [sidesetResult, encodeSidesetOpt_eq_error_iff, sidesetOptChecks, and_assoc]

theorem result_eq_error_iff {i : Instr} {v : Bool} {draws : Nat} {k : Cause} :
    result i v draws = .error k ↔ v = true ∧ firstFailure i = some k := by
  obtain ⟨j, hwf, hchecks, -, hresult, -⟩ := exists_wellFormed_like i
  rw [firstFailure_eq, ← hchecks, ← hresult]
  exact result_eq_error_iff_of_wellFormed hwf

theorem exec_eq_fault_iff {i : Instr} {s : State} {f : Fault} :
    exec i s = .fault f ↔ ∃ k, (s.validate = true ∧ firstFailure i = some k) ∧ f = .abort k := by
  simp only [exec_eq_complete, complete_eq_fault_iff, result_eq_error_iff]

/-- With VALIDATE 0, or no failed check, the operation yields a word (10 R18). -/
theorem exists_result_eq_ok {i : Instr} {v : Bool} (draws : Nat) (h : v = false ∨ firstFailure i = none) :
    ∃ w, result i v draws = .ok w := by
  cases hr : result i v draws with
  | ok w => exact ⟨w, rfl⟩
  | error k =>
    obtain ⟨hv, hk⟩ := result_eq_error_iff.mp hr
    simp [hv, hk] at h

/-! ## The gate and the abort -/

/-- Settles O7: with VALIDATE 0 there is a word, and the draw count moves exactly for a free value. -/
theorem unvalidatedNeverAborts : Obligations.UnvalidatedNeverAborts := by
  intro i s hv
  obtain ⟨w, hw⟩ := exists_result_eq_ok (i := i) s.draws (.inl hv)
  refine ⟨w, ?_⟩
  rw [exec_eq_complete, hw, complete_ok]
  cases specified i <;> rfl

/-- A legal request yields the word of a row in every state: that of the well-formed term like it. -/
theorem exists_word_of_legal {i : Instr} (hl : legal i = true) : ∃ w, ∀ s, exec i s = .next (afterWord s w) := by
  obtain ⟨j, hwf, hchecks, -, -, hexec⟩ := exists_wellFormed_like i
  have hj : legal j = true := by rw [legal, hchecks]; exact hl
  exact ⟨opcodeWord j, fun s => (hexec s).symm.trans (exec_of_legal hwf hj rfl s)⟩

/-- Settles O8: the strap setting is part of the state, and the word is the same in every state. -/
theorem legalRequestsYieldOneWordInEveryConfiguration :
    Obligations.LegalRequestsYieldOneWordInEveryConfiguration := by
  intro i s hl
  obtain ⟨w, hw⟩ := exists_word_of_legal hl
  exact ⟨w, fun m e d => hw (withStraps s m e d)⟩

/-- Settles O9: a failed check aborts with the first one's cause; without one the request is legal. -/
theorem firstFailedCheckDecidesTheCause : Obligations.FirstFailedCheckDecidesTheCause := by
  intro i s hv
  refine ⟨?failed, ?legal⟩
  case failed => exact fun c hc => exec_eq_fault_iff.mpr ⟨c, ⟨hv, hc⟩, rfl⟩
  case legal =>
    intro hnone
    obtain ⟨w, hw⟩ := exists_word_of_legal ((firstFailure_eq_none_iff i).mp hnone)
    exact ⟨w, hw s⟩

/-- Settles O10: the cause of an abort is that of the first failed check, and if any check fails there is a first. -/
theorem abortArisesExactlyFromAFailedCheckWhenValidated :
    Obligations.AbortArisesExactlyFromAFailedCheckWhenValidated := by
  intro i s
  refine ⟨?fromAFailedCheck, ?always, ?noRefusal⟩
  case fromAFailedCheck =>
    intro f hf
    obtain ⟨c, ⟨hv, hc⟩, rfl⟩ := exec_eq_fault_iff.mp hf
    exact ⟨hv, c, mem_of_firstFailed hc, rfl⟩
  case always =>
    rintro hv ⟨c, hc⟩
    cases hfirst : firstFailure i with
    | some c' => exact ⟨c', exec_eq_fault_iff.mpr ⟨c', ⟨hv, hfirst⟩, rfl⟩⟩
    | none =>
      have hall := (firstFailure_eq_none_iff i).mp hfirst
      cases List.all_eq_true.mp hall _ hc
  case noRefusal =>
    intro r
    rw [exec_eq_complete]
    exact complete_ne_refused

/-! ## The output ports -/

/-- Settles O12: an operation ends in a word or an abort, and the ports show which. -/
theorem outputPortsShowTheOutcome : Obligations.OutputPortsShowTheOutcome := by
  intro i s
  refine ⟨?word, ?abort, ?exactly⟩
  case word => exact fun t ht => ⟨by rw [ht, portView], outputs_of_exec ht⟩
  case abort => exact fun c hc => by rw [hc, portView]
  case exactly =>
    rw [exec_eq_complete]
    cases hr : result i s.validate s.draws with
    | ok w => exact ⟨_, rfl, by simp, fun _ => rfl⟩
    | error c =>
      obtain ⟨hv, -⟩ := result_eq_error_iff.mp hr
      exact ⟨_, rfl, by simp, fun h => absurd hv (by simp [h])⟩

/-- The cause that a code of the `cause` port names (60 R110). -/
def causeOfCode (code : BitVec 4) : Option Cause :=
  [none, some .aSelRange, some .aArgRangeInout, some .aArgRange, some .aIrqRange, some .aInSrc, some .aOutDest,
    some .aSetDest, some .aMovDest, some .aMovSrc, some .aDelayRange, some .aSidesetCount, some .aSidesetValue,
    some .aSidesetOptCount, some .aSidesetOptValue].getD code.toNat none

theorem causeOfCode_causeCode (c : Cause) : causeOfCode (causeCode c) = some c := by cases c <;> rfl

/-- Settles O11: a code reads back as its cause, so no two causes share one, and 0 and 15 read as none. -/
theorem causeCodesAreOneToFourteen : Obligations.CauseCodesAreOneToFourteen := by
  refine ⟨by decide, ?neither, ?injective⟩
  case neither =>
    intro c
    have hc := causeOfCode_causeCode c
    constructor
    all_goals
      intro h
      rw [h] at hc
      cases hc
  case injective =>
    intro c c' h
    have hc := causeOfCode_causeCode c
    rw [h, causeOfCode_causeCode] at hc
    exact (Option.some.inj hc).symm

end Sys2Proof.Machine
end

section
/-! Words by shape: base words and field words by their fields, and the shapes that no wrapper emits (30 R46, R49;
49 R99). -/

namespace Sys2Proof.Machine

/-! ## Fields of a word -/

@[simp] theorem selectorBits_baseWord (m s : BitVec 3) (g : BitVec 5) : selectorBits (baseWord m s g) = s := by
  change BitVec.extractLsb' (n := 3 + 5 + 3 + 5) 5 3 (m ++ 0#5 ++ s ++ g) = s
  rw [BitVec.extractLsb'_append_eq_of_le (by decide)]
  exact BitVec.extractLsb'_append_eq_right

@[simp] theorem majorBits_fieldWord (f : BitVec 5) : majorBits (fieldWord f) = 0 := by
  change BitVec.extractLsb' (n := 3 + 5 + 8) 13 3 (0#3 ++ f ++ 0#8) = 0
  rw [BitVec.extractLsb'_append_eq_of_le (by decide)]
  exact BitVec.extractLsb'_append_eq_left

@[simp] theorem fieldBits_fieldWord (f : BitVec 5) : fieldBits (fieldWord f) = f := by
  change BitVec.extractLsb' (n := 3 + 5 + 8) 8 5 (0#3 ++ f ++ 0#8) = f
  rw [BitVec.extractLsb'_append_eq_of_le (by decide)]
  exact BitVec.extractLsb'_append_eq_right

@[simp] theorem selectorBits_fieldWord : ∀ f, selectorBits (fieldWord f) = 0 := by decide

@[simp] theorem argumentBits_fieldWord : ∀ f, argumentBits (fieldWord f) = 0 := by decide

/-- A word is its four fields (30 R37). -/
theorem word_ext {w w' : Word} (hm : majorBits w = majorBits w') (hf : fieldBits w = fieldBits w')
    (hs : selectorBits w = selectorBits w') (hg : argumentBits w = argumentBits w') : w = w' := by
  have h (w : Word) : w = majorBits w ++ fieldBits w ++ selectorBits w ++ argumentBits w := by
    simp only [majorBits, fieldBits, selectorBits, argumentBits,
      BitVec.extractLsb'_append_extractLsb'_eq_extractLsb']
    simp
  rw [h w, h w', hm, hf, hs, hg]

theorem eq_fieldWord {w : Word} (hm : majorBits w = 0) (hs : selectorBits w = 0) (hg : argumentBits w = 0) :
    w = fieldWord (fieldBits w) :=
  word_ext (by simp [hm]) (by simp) (by simp [hs]) (by simp [hg])

/-! ## Field encoders -/

/-- Every row of a field encoder is a field word (49 R99). -/
theorem exists_fieldWord_of_instrClass {i : Instr} (h : instrClass i = none) :
    ∃ f, opcodeWord i = fieldWord f := by
  cases i
  case encodeDelay | encodeSideset1 | encodeSideset2 | encodeSideset3 | encodeSideset4 | encodeSideset5 |
      encodeSidesetOpt1 | encodeSidesetOpt2 | encodeSidesetOpt3 | encodeSidesetOpt4 => exact ⟨_, rfl⟩
  all_goals cases h

/-- Settles O21: the word is the row's, a field word. -/
theorem fieldWordsAreZeroOutsideTheField : Obligations.FieldWordsAreZeroOutsideTheField := by
  intro i s w hc hwf hr h
  obtain ⟨f, hf⟩ := exists_fieldWord_of_instrClass hc
  rw [eq_opcodeWord_of_result_eq_ok hwf hr (result_eq_ok_of_exec h), hf]
  exact ⟨majorBits_fieldWord f, selectorBits_fieldWord f, argumentBits_fieldWord f⟩

/-! ## Reserved shapes -/

/-- Which selectors and arguments of a class make a shape that no wrapper emits (30 R49, first list). -/
def classReserved (c : OpClass) (k : BitVec 3) (g : BitVec 5) : Bool :=
  match c with
  | .wait => k.toNat % 4 == 3 || (k.toNat % 4 == 2 && g.getLsbD 3)
  | .push | .pull => g != 0
  | .mov => g.extractLsb' 3 2 == 3
  | .irq => g.getLsbD 3 || decide (3 ≤ k.toNat)
  | .jmp | .in_ | .out | .set => false

theorem reservedShape_classWord (c : OpClass) (k : BitVec 3) (g : BitVec 5) :
    reservedShape (classWord c k g) = classReserved c k g := by
  rw [classWord]
  simp only [reservedShape, majorBits_baseWord, fieldBits_baseWord, selectorBits_baseWord, argumentBits_baseWord]
  cases c <;> rfl

/-- As `classReserved`, for the validated configuration: the selectors of forbidden operands (30 R49, second
list). -/
def classReservedWhenValidated (c : OpClass) (k : BitVec 3) (g : BitVec 5) : Bool :=
  match c with
  | .in_ => k.toNat == 4 || k.toNat == 5
  | .out => k.toNat == 7
  | .mov => k.toNat == 3 || k.toNat == 4 || g.extractLsb' 0 3 == 4
  | .set => k.toNat == 3 || k.toNat == 5 || k.toNat == 6 || k.toNat == 7
  | .jmp | .wait | .push | .pull | .irq => false

theorem reservedWhenValidated_classWord (c : OpClass) (k : BitVec 3) (g : BitVec 5) :
    reservedWhenValidated (classWord c k g) = classReservedWhenValidated c k g := by
  rw [classWord]
  simp only [reservedWhenValidated, majorBits_baseWord, selectorBits_baseWord, argumentBits_baseWord]
  cases c <;> rfl

/-- An operand that IN may read has none of the selectors that only forbidden sources have (40 R58). -/
theorem not_reserved_of_inSrc {o : Operand} (ho : K.forbid o .inSrc = false) (g : BitVec 5) :
    classReservedWhenValidated .in_ (K.sel o) g = false := by
  have hall : (K.forbid o .inSrc || !classReservedWhenValidated .in_ (K.sel o) g) = true := by cases o <;> rfl
  simpa [ho] using hall

theorem not_reserved_of_outDest {o : Operand} (ho : K.forbid o .outDest = false) (g : BitVec 5) :
    classReservedWhenValidated .out (K.sel o) g = false := by
  have hall : (K.forbid o .outDest || !classReservedWhenValidated .out (K.sel o) g) = true := by cases o <;> rfl
  simpa [ho] using hall

theorem not_reserved_of_setDest {o : Operand} (ho : K.forbid o .setDest = false) (g : BitVec 5) :
    classReservedWhenValidated .set (K.sel o) g = false := by
  have hall : (K.forbid o .setDest || !classReservedWhenValidated .set (K.sel o) g) = true := by cases o <;> rfl
  simpa [ho] using hall

/-- In a MOV word the selector is the destination's and the low argument bits are the source's (46 R88). -/
theorem not_reserved_of_mov {d o : Operand} (op : MovOp) (hd : K.forbid d .movDest = false)
    (ho : K.forbid o .movSrc = false) :
    classReservedWhenValidated .mov (K.sel d) (BitVec.ofNat 5 (movArgument op o)) = false := by
  have hdest : (K.forbid d .movDest || !((K.sel d).toNat == 3 || (K.sel d).toNat == 4)) = true := by cases d <;> rfl
  have hsrc : (K.forbid o .movSrc || !(K.sel o == 4)) = true := by cases o <;> rfl
  have hlow : (BitVec.ofNat 5 (movArgument op o)).extractLsb' 0 3 = K.sel o := by
    rw [ofNat_movArgument]
    exact BitVec.extractLsb'_append_eq_right
  rw [hd, Bool.false_or, Bool.not_eq_true'] at hdest
  rw [ho, Bool.false_or, Bool.not_eq_true'] at hsrc
  rw [classReservedWhenValidated, hlow, hdest, hsrc, Bool.or_false]

/-- The composite IRQ number of a request leaves bit 3 at zero (30 R43). -/
theorem getLsbD_three_irqBits (r : Bool) (n : WNum) : (irqBits r n).getLsbD 3 = false := by
  have hbit : ∀ x : BitVec 3, (BitVec.ofBool r ++ 0#1 ++ x).getLsbD 3 = false := by cases r <;> decide
  exact hbit (low 3 n)

theorem operationNumber_encodeArgsInstr (c : OpClass) (k g : WNum) : operationNumber (encodeArgsInstr c k g) = 0 := by
  rw [operationNumber_eq, encode_encodeArgsInstr]
  rfl

theorem operationNumber_encodeArgsWithOperandInstr (c : OpClass) (o : Operand) (g : WNum) :
    operationNumber (encodeArgsWithOperandInstr c o g) = 1 := by
  rw [operationNumber_eq, encode_encodeArgsWithOperandInstr]
  rfl

theorem operationNumber_sidesetInstr (n e : WNum) : operationNumber (sidesetInstr n e) = 26 := by
  rw [operationNumber_eq, encode_sidesetInstr]
  rfl

theorem operationNumber_sidesetOptInstr (n e : WNum) : operationNumber (sidesetOptInstr n e) = 27 := by
  rw [operationNumber_eq, encode_sidesetOptInstr]
  rfl

/-- THE SHAPES OF THE WRAPPERS' ROWS: none is of the first list, and a legal request's is not of the second
(30 R49). -/
theorem shape_opcodeWord {i : Instr} (hwf : i.wellFormed = true) (h2 : 2 ≤ operationNumber i)
    (h24 : operationNumber i ≤ 24) : reservedShape (opcodeWord i) = false ∧
      (legal i = true → reservedWhenValidated (opcodeWord i) = false) := by
  have key {c : OpClass} {k : BitVec 3} {g : BitVec 5} (hw : opcodeWord i = classWord c k g)
      (hshape : classReserved c k g = false)
      (hlegal : legal i = true → classReservedWhenValidated c k g = false) :
      reservedShape (opcodeWord i) = false ∧ (legal i = true → reservedWhenValidated (opcodeWord i) = false) := by
    rw [hw, reservedShape_classWord, reservedWhenValidated_classWord]
    exact ⟨hshape, hlegal⟩
  induction i, hwf using wellFormed_cases with
  | args c k g =>
    rw [operationNumber_encodeArgsInstr] at h2
    omega
  | withOperand c o g =>
    rw [operationNumber_encodeArgsWithOperandInstr] at h2
    omega
  | jmp c a => exact key (opcodeWord_jmpInstr a c) rfl fun _ => rfl
  | waitGpio p x => exact key (c := .wait) rfl (by cases p <;> rfl) fun _ => rfl
  | waitPin p x => exact key (c := .wait) rfl (by cases p <;> rfl) fun _ => rfl
  | waitIrq p r n =>
    refine key (c := .wait) rfl ?_ fun _ => rfl
    rw [classReserved, getLsbD_three_irqBits]
    cases p <;> rfl
  | in_ o c =>
    refine key (c := .in_) rfl rfl fun hl => not_reserved_of_inSrc ?_ _
    exact (show K.forbid o .inSrc = false ∧ _ by simpa [legal, checks] using hl).1
  | out o c =>
    refine key (c := .out) rfl rfl fun hl => not_reserved_of_outDest ?_ _
    exact (show K.forbid o .outDest = false ∧ _ by simpa [legal, checks] using hl).1
  | push f b => exact key (c := .push) rfl rfl fun _ => rfl
  | pull f b =>
    have hw : opcodeWord (.encodePull f b) = classWord .pull (0#1 ++ BitVec.ofBool f ++ BitVec.ofBool b) 0 := by
      cases f <;> cases b <;> rfl
    exact key hw rfl fun _ => rfl
  | mov op d o =>
    refine key (opcodeWord_movInstr o d op) (by cases op <;> cases o <;> rfl) fun hl => ?_
    obtain ⟨hd, ho⟩ : K.forbid d .movDest = false ∧ K.forbid o .movSrc = false := by
      simpa [legal, movChecks] using hl
    exact not_reserved_of_mov op hd ho
  | nop => exact key (c := .mov) (k := 2) (g := 2) rfl rfl fun _ => rfl
  | irq sub r n =>
    refine key (opcodeWord_irqInstr n sub r) ?_ fun _ => rfl
    rw [classReserved, getLsbD_three_irqBits]
    cases sub <;> rfl
  | set o x =>
    refine key (c := .set) rfl rfl fun hl => not_reserved_of_setDest ?_ _
    exact (show K.forbid o .setDest = false ∧ _ by simpa [legal, checks] using hl).1
  | delay c => exact absurd h24 (by simp [operationNumber])
  | sideset n e =>
    rw [operationNumber_sidesetInstr] at h24
    omega
  | sidesetOpt n e =>
    rw [operationNumber_sidesetOptInstr] at h24
    omega

theorem wellFormed_of_operationNumber_le {i : Instr} (h : operationNumber i ≤ 24) : i.wellFormed = true := by
  cases i
  case encodeSideset5 | encodeSidesetOpt4 => exact absurd h (by simp [operationNumber])
  all_goals rfl

/-- Settles O22: the word is the row's, and with VALIDATE 1 only a legal request yields one. -/
theorem wrappersNeverEmitReservedShapes : Obligations.WrappersNeverEmitReservedShapes := by
  intro i s w h2 h24 hr h
  have hwf := wellFormed_of_operationNumber_le h24
  have hres := result_eq_ok_of_exec h
  obtain ⟨hshape, hlegal⟩ := shape_opcodeWord hwf h2 h24
  rw [eq_opcodeWord_of_result_eq_ok hwf hr hres]
  refine ⟨hshape, fun hv => hlegal ?_⟩
  exact ((exists_result_ok_iff _ _ hwf).mp ⟨w, hres⟩).resolve_left (by simp [hv])

end Sys2Proof.Machine
end

section
/-! The reader of table words (entry 5): what it reads from a word gives the word back, and which words it reads. -/

namespace Sys2Proof.Machine

/-! ## The reader of table words -/

/-- What the reader owes: a well-formed legal instruction whose row is the word. -/
def ReadsBack (i : Instr) (w : Word) : Prop := i.wellFormed = true ∧ legal i = true ∧ opcodeWord i = w

theorem toNat_widen {n : Nat} (hn : n ≤ 32) (b : BitVec n) : (widen b).toNat = b.toNat :=
  BitVec.toNat_setWidth_of_le hn

theorem low_widen {n : Nat} (hn : n ≤ 32) (b : BitVec n) : low n (widen b) = b := by
  rw [low, widen, BitVec.setWidth_setWidth_of_le b hn, BitVec.setWidth_eq]

theorem argumentCheck_widen {c : OpClass} (hc : ¬ (c = .in_ ∨ c = .out)) (a : BitVec 5) :
    (argumentCheck c (widen a)).1 = true := by
  rw [argumentCheck_fst, argumentInRange_iff_le hc, toNat_widen (by decide)]
  exact Nat.le_of_lt_succ a.isLt

theorem argumentCheck_countOf {c : OpClass} (hc : c = .in_ ∨ c = .out) (a : BitVec 5) :
    (argumentCheck c (countOf a)).1 = true := by
  have h := argumentInRange_rawArgument c a
  rw [rawArgument, if_pos hc] at h
  exact (argumentCheck_fst c _).mpr h

/-- The last resort of every reader: the raw core on the word's own fields. -/
theorem readsBack_raw {c : OpClass} (hc : c ≠ .pull) (k : BitVec 3) (a : BitVec 5) :
    ReadsBack (encodeArgsInstr c (widen k) (rawArgument c a)) (baseWord (majorBits (K.tag c)) k a) :=
  ⟨by cases c <;> rfl, (legal_encodeArgsInstr_iff c _ _).mpr ⟨widen_selector_le k, argumentInRange_rawArgument c a⟩,
    opcodeWord_raw hc k a⟩

/-- The operand read from a selector is packed as it and allowed in its use (40 R58). -/
theorem of_operandFor {u : UseClass} {k : BitVec 3} {o : Operand} (h : operandFor u k = some o) :
    K.sel o = k ∧ K.forbid o u = false := by
  simpa using List.find?_some h

theorem readsBack_readJmp (k : BitVec 3) (a : BitVec 5) : ReadsBack (readJmp k a) (baseWord 0 k a) := by
  obtain ⟨cond, rfl, hread⟩ : ∃ cond, BitVec.ofNat 3 (K.jmpCond cond) = k ∧
      readJmp k a = jmpInstr cond (widen a) := by
    obtain ⟨⟨n, hn⟩⟩ := k
    interval_cases n
    exacts [⟨.always, rfl, rfl⟩, ⟨.notX, rfl, rfl⟩, ⟨.xDec, rfl, rfl⟩, ⟨.notY, rfl, rfl⟩, ⟨.yDec, rfl, rfl⟩,
      ⟨.xNeY, rfl, rfl⟩, ⟨.pin, rfl, rfl⟩, ⟨.notOsre, rfl, rfl⟩]
  rw [hread]
  refine ⟨by cases cond <;> rfl, ?legal, ?word⟩
  case legal => simp [legal, argumentCheck_widen]
  case word =>
    rw [opcodeWord_jmpInstr, low_widen (by decide)]
    rfl

/-- A selector is its top bit and the two below it (43 R78). -/
theorem selector_eq_append : ∀ k : BitVec 3, k = BitVec.ofBool (k.getLsbD 2) ++ k.extractLsb' 0 2 := by decide

/-- An IRQ number with bit 3 at zero is a flag and an index (30 R43). -/
theorem irqNumber_eq_append :
    ∀ a : BitVec 5, a.getLsbD 3 = false → a = BitVec.ofBool (a.getLsbD 4) ++ 0#1 ++ a.extractLsb' 0 3 := by decide

theorem irqBits_widen {a : BitVec 5} (h : a.getLsbD 3 = false) :
    irqBits (a.getLsbD 4) (widen (a.extractLsb' 0 3)) = a := by
  rw [irqBits, low_widen (by decide), ← irqNumber_eq_append a h]

theorem legal_irqCheck (a : BitVec 3) : (irqCheck (widen a)).all (fun c => c.1) = true := by
  have ha : (widen a).toNat ≤ 7 := widen_selector_le a
  simp [irqCheck, ha]

theorem readsBack_readWait (k : BitVec 3) (a : BitVec 5) : ReadsBack (readWait k a) (baseWord 1 k a) := by
  have hk (x : BitVec 2) (h : (k.extractLsb' 0 2).toNat = x.toNat) : BitVec.ofBool (k.getLsbD 2) ++ x = k := by
    rw [← BitVec.eq_of_toNat_eq h, ← selector_eq_append]
  unfold readWait
  split
  next h =>
    exact ⟨rfl, by simp [legal, checks, argumentCheck_widen], by rw [opcodeWord, hk 0#2 h, low_widen (by decide)]⟩
  next h =>
    exact ⟨rfl, by simp [legal, checks, argumentCheck_widen], by rw [opcodeWord, hk 1#2 h, low_widen (by decide)]⟩
  next h =>
    split_ifs with ha
    · exact readsBack_raw (c := .wait) (by decide) k a
    · exact ⟨rfl, legal_irqCheck _, by rw [opcodeWord, hk 2#2 h, irqBits_widen (by simpa using ha)]⟩
  next => exact readsBack_raw (c := .wait) (by decide) k a

theorem readsBack_readIn (k : BitVec 3) (a : BitVec 5) : ReadsBack (readIn k a) (baseWord 2 k a) := by
  unfold readIn
  split
  next o ho =>
    obtain ⟨rfl, hallowed⟩ := of_operandFor ho
    exact ⟨rfl, by simp [legal, checks, hallowed, argumentCheck_countOf],
      congrArg (baseWord 2 (K.sel o)) (low_rawArgument .in_ a)⟩
  next => exact readsBack_raw (c := .in_) (by decide) k a

theorem readsBack_readOut (k : BitVec 3) (a : BitVec 5) : ReadsBack (readOut k a) (baseWord 3 k a) := by
  unfold readOut
  split
  next o ho =>
    obtain ⟨rfl, hallowed⟩ := of_operandFor ho
    exact ⟨rfl, by simp [legal, checks, hallowed, argumentCheck_countOf],
      congrArg (baseWord 3 (K.sel o)) (low_rawArgument .out a)⟩
  next => exact readsBack_raw (c := .out) (by decide) k a

theorem readsBack_readSet (k : BitVec 3) (a : BitVec 5) : ReadsBack (readSet k a) (baseWord 7 k a) := by
  unfold readSet
  split
  next o ho =>
    obtain ⟨rfl, hallowed⟩ := of_operandFor ho
    exact ⟨rfl, by simp [legal, checks, hallowed, argumentCheck_widen],
      congrArg (baseWord 7 (K.sel o)) (low_rawArgument .set a)⟩
  next => exact readsBack_raw (c := .set) (by decide) k a

theorem selector_eq_bits : ∀ k : BitVec 3,
    k = BitVec.ofBool (k.getLsbD 2) ++ BitVec.ofBool (k.getLsbD 1) ++ BitVec.ofBool (k.getLsbD 0) := by decide

/-- Bit 7 says PULL (30 R41); argument 0 says the wrapper, whose argument is always 0 (45 R85). -/
theorem readsBack_readPushPull (k : BitVec 3) (a : BitVec 5) : ReadsBack (readPushPull k a) (baseWord 4 k a) := by
  have hbits := selector_eq_bits k
  have hpull := selector_eq_append k
  unfold readPushPull
  split_ifs with hk ha ha
  case pos =>
    rw [hk] at hbits
    exact ⟨rfl, rfl, by rw [opcodeWord, ha]; exact congrArg (baseWord 4 · 0) hbits.symm⟩
  case neg =>
    rw [hk] at hpull
    have hle : (widen (k.extractLsb' 0 2)).toNat ≤ 7 := by
      rw [toNat_widen (by decide)]
      exact (Nat.le_of_lt_succ (k.extractLsb' 0 2).isLt).trans (by decide)
    refine ⟨rfl, by simp [legal, checks, coreChecks, hle, argumentCheck_widen], ?_⟩
    rw [opcodeWord, low_widen (by decide), low_widen (by decide)]
    exact congrArg (baseWord 4 · a) hpull.symm
  case pos =>
    rw [Bool.not_eq_true] at hk
    rw [hk] at hbits
    exact ⟨rfl, rfl, by rw [opcodeWord, ha]; exact congrArg (baseWord 4 · 0) hbits.symm⟩
  case neg => exact readsBack_raw (c := .push) (by decide) k a

/-- A MOV argument is its tag and its source selector (46 R88). -/
theorem argument_eq_append : ∀ a : BitVec 5, a = a.extractLsb' 3 2 ++ a.extractLsb' 0 3 := by decide

theorem readsBack_movInstr {k : BitVec 3} {a : BitVec 5} {d o : Operand} (op : MovOp)
    (hd : operandFor .movDest k = some d) (ho : operandFor .movSrc (a.extractLsb' 0 3) = some o)
    (htag : (a.extractLsb' 3 2).toNat = K.movOp op) : ReadsBack (movInstr op d o) (baseWord 5 k a) := by
  obtain ⟨rfl, hdest⟩ := of_operandFor hd
  obtain ⟨hsel, hsrc⟩ := of_operandFor ho
  refine ⟨by cases op <;> rfl, by simp [legal, movChecks, hdest, hsrc], ?word⟩
  case word =>
    rw [opcodeWord_movInstr, ofNat_movArgument, ← htag, BitVec.ofNat_toNat, BitVec.setWidth_eq, hsel,
      ← argument_eq_append]
    rfl

theorem readsBack_readMov (k : BitVec 3) (a : BitVec 5) : ReadsBack (readMov k a) (baseWord 5 k a) := by
  unfold readMov
  split_ifs with hnop
  case pos =>
    obtain ⟨rfl, rfl⟩ := hnop
    exact ⟨rfl, rfl, rfl⟩
  case neg =>
    split
    next hd ho htag => exact readsBack_movInstr .none hd ho htag
    next hd ho htag => exact readsBack_movInstr .not hd ho htag
    next hd ho htag => exact readsBack_movInstr .reverse hd ho htag
    next => exact readsBack_raw (c := .mov) (by decide) k a

theorem readsBack_irqInstr {k : BitVec 3} {a : BitVec 5} (sub : IrqSub) (hk : k.toNat = K.irqSub sub)
    (ha : ¬ a.getLsbD 3 = true) :
    ReadsBack (irqInstr sub (a.getLsbD 4) (widen (a.extractLsb' 0 3))) (baseWord 6 k a) := by
  refine ⟨by cases sub <;> rfl, by cases sub <;> exact legal_irqCheck _, ?word⟩
  case word =>
    rw [opcodeWord_irqInstr, irqBits_widen (by simpa using ha), ← hk, BitVec.ofNat_toNat, BitVec.setWidth_eq]
    rfl

theorem readsBack_readIrq (k : BitVec 3) (a : BitVec 5) : ReadsBack (readIrq k a) (baseWord 6 k a) := by
  unfold readIrq
  split_ifs with ha
  case pos => exact readsBack_raw (c := .irq) (by decide) k a
  case neg =>
    split
    next hk => exact readsBack_irqInstr .set hk ha
    next hk => exact readsBack_irqInstr .wait hk ha
    next hk => exact readsBack_irqInstr .clear hk ha
    next => exact readsBack_raw (c := .irq) (by decide) k a

/-- Thirty-two field words, each read by the zeros below its value (49 R103). -/
theorem readsBack_readField : ∀ f : BitVec 5, ReadsBack (readField f) (fieldWord f) := by
  unfold ReadsBack
  decide

theorem readsBack_readBase (m k : BitVec 3) (a : BitVec 5) : ReadsBack (readBase m k a) (baseWord m k a) := by
  obtain ⟨⟨n, hn⟩⟩ := m
  interval_cases n
  exacts [readsBack_readJmp k a, readsBack_readWait k a, readsBack_readIn k a, readsBack_readOut k a,
    readsBack_readPushPull k a, readsBack_readMov k a, readsBack_readIrq k a, readsBack_readSet k a]

/-! ## What is read -/

theorem readWord_of_base {w : Word} (h : fieldBits w = 0) :
    readWord w = .ok (readBase (majorBits w) (selectorBits w) (argumentBits w)) := if_pos h

theorem readWord_of_field {w : Word} (h : fieldBits w ≠ 0)
    (hz : majorBits w = 0 ∧ selectorBits w = 0 ∧ argumentBits w = 0) :
    readWord w = .ok (readField (fieldBits w)) := (if_neg h).trans (if_pos hz)

theorem readWord_of_both {w : Word} (h : fieldBits w ≠ 0)
    (hz : ¬ (majorBits w = 0 ∧ selectorBits w = 0 ∧ argumentBits w = 0)) :
    readWord w = .error (.fieldBitsOnBase w) := (if_neg h).trans (if_neg hz)

/-- Whatever the reader reads from a word gives the word back. -/
theorem readsBack_of_readWord {w : Word} {i : Instr} (h : readWord w = .ok i) : ReadsBack i w := by
  by_cases hf : fieldBits w = 0
  case pos =>
    rw [readWord_of_base hf] at h
    cases h
    have hback := readsBack_readBase (majorBits w) (selectorBits w) (argumentBits w)
    rwa [← eq_baseWord_of_fieldBits_eq_zero hf] at hback
  case neg =>
    by_cases hz : majorBits w = 0 ∧ selectorBits w = 0 ∧ argumentBits w = 0
    case pos =>
      rw [readWord_of_field hf hz] at h
      cases h
      obtain ⟨hm, hs, hg⟩ := hz
      have hback := readsBack_readField (fieldBits w)
      rwa [← eq_fieldWord hm hs hg] at hback
    case neg =>
      rw [readWord_of_both hf hz] at h
      cases h

/-- Settles O56: the row of a legal well-formed instruction is its word in every state. -/
theorem readWordsEncodeBack : Obligations.ReadWordsEncodeBack := by
  intro w i h
  obtain ⟨hwf, hl, hw⟩ := readsBack_of_readWord h
  exact ⟨hwf, hl, hw, exec_of_legal hwf hl hw⟩

/-- A word with only one of the two parts is read. -/
theorem exists_readWord_eq_ok {w : Word}
    (h : fieldBits w = 0 ∨ (majorBits w = 0 ∧ selectorBits w = 0 ∧ argumentBits w = 0)) :
    ∃ j, readWord w = .ok j := by
  by_cases hf : fieldBits w = 0
  case pos => exact ⟨_, readWord_of_base hf⟩
  case neg => exact ⟨_, readWord_of_field hf (h.resolve_left hf)⟩

/-- A row is a base word or a field word. -/
theorem base_or_field_opcodeWord (i : Instr) : fieldBits (opcodeWord i) = 0 ∨
    (majorBits (opcodeWord i) = 0 ∧ selectorBits (opcodeWord i) = 0 ∧ argumentBits (opcodeWord i) = 0) := by
  cases hc : instrClass i with
  | some c => exact .inl (opcodeWord_fields_of_instrClass hc).1
  | none =>
    obtain ⟨f, hf⟩ := exists_fieldWord_of_instrClass hc
    rw [hf]
    exact .inr ⟨majorBits_fieldWord f, selectorBits_fieldWord f, argumentBits_fieldWord f⟩

/-- Settles O57: an in-range word is a row, so one of the two shapes that are read. -/
theorem everyEmittedWordIsRead : Obligations.EveryEmittedWordIsRead := by
  refine ⟨?emitted, fun _ => exists_readWord_eq_ok, fun _ => readWord_of_both⟩
  case emitted =>
    intro i s w hwf hr h
    obtain rfl := eq_opcodeWord_of_result_eq_ok hwf hr (result_eq_ok_of_exec h)
    obtain ⟨j, hj⟩ := exists_readWord_eq_ok (base_or_field_opcodeWord i)
    obtain ⟨-, -, -, hexec⟩ := readWordsEncodeBack _ j hj
    exact ⟨j, hj, hexec⟩

/-- Settles O55, by running the reader on the fourteen words. -/
theorem wordsWrittenFromTheTableAreReadRight : Obligations.WordsWrittenFromTheTableAreReadRight := by
  refine ⟨?jmp, ?wait, ?in_, ?out, ?push, ?pull, ?mov, ?irq, ?set, ?delay, ?sideset, ?sidesetOpt, ?raw, ?rejected⟩
  all_goals decide

theorem readWord_of_decodeTableWord {w : Nat} {i : Instr} (h : decodeTableWord 16 w = some i) :
    readWord (BitVec.ofNat 16 w) = .ok i := by
  unfold decodeTableWord at h
  split_ifs at h
  split at h <;> cases h
  assumption

/-- Settles O58: the request presented is the one that names the instruction read, so the step reads it back, and
the word it drives replaces the outputs that presenting had set. -/
theorem stepRunsThePresentedTableWord : Obligations.StepRunsThePresentedTableWord := by
  intro s w i h
  obtain ⟨hwf, -, -, hexec⟩ := readWordsEncodeBack _ i (readWord_of_decodeTableWord h)
  have hrequest : s.withFetchWord 16 w = s.present (encode i) := by
    rw [State.withFetchWord, requestOfWord, h]
  have hstep : step (s.present (encode i)) = exec i (s.present (encode i)) :=
    step_of_decode (everyInstructionReadsBackFromThePorts i hwf)
  rw [hrequest]
  exact ⟨hstep, hstep.trans (hexec _)⟩

end Sys2Proof.Machine
end

section
/-! The core and the wrappers on chosen inputs: what reaches the word, what the checks let through, and which requests
no word tells apart (30 R54, 40 R61, 41 R65 to R68, 46, 48, 70 R133). -/

namespace Sys2Proof.Machine

/-! ## The core packer -/

/-- The selector's high bits leave the word on the left, so its low eleven bits are all that is packed (41 R65). -/
theorem setWidth_shiftLeft_five (k : WNum) : k.setWidth 16 <<< 5 = (k.setWidth 11).setWidth 16 <<< 5 := by
  apply BitVec.eq_of_toNat_eq
  simp only [BitVec.toNat_shiftLeft, BitVec.toNat_setWidth, Nat.shiftLeft_eq]
  omega

/-- The packing formula on words: the selector unmasked, the argument cut to five bits (41 R65). -/
theorem pack_toNat (c : OpClass) (k g : WNum) :
    pack c k.toNat g.toNat = K.tag c ||| (k.setWidth 16 <<< 5) ||| (g.setWidth 5).setWidth 16 := by
  have hk : trunc16 k.toNat = k.setWidth 16 := BitVec.ofNat_toNat ..
  have hg : trunc16 (g.toNat % 32) = (g.setWidth 5).setWidth 16 := by
    apply BitVec.eq_of_toNat_eq
    simp only [trunc16, BitVec.toNat_ofNat, BitVec.toNat_setWidth]
  rw [pack_eq, hk, hg]

/-- Settles O30: with VALIDATE 0 nothing is checked, and the formula loses all but eleven and five bits. -/
theorem unvalidatedCorePacksAnyInput : Obligations.UnvalidatedCorePacksAnyInput := by
  intro s hv
  refine ⟨?word, ?lowBits, ?examples⟩
  case word =>
    intro c k g
    rw [exec_encodeArgsInstr_of_unvalidated c k g hv, pack_toNat]
  case lowBits =>
    intro c k k' g g' hk hg
    rw [exec_encodeArgsInstr_of_unvalidated c k g hv, exec_encodeArgsInstr_of_unvalidated c k' g' hv, pack_toNat,
      pack_toNat, setWidth_shiftLeft_five k, setWidth_shiftLeft_five k', hk, hg]
  case examples =>
    exact ⟨exec_encodeArgsInstr_of_unvalidated .jmp 8 0 hv, exec_encodeArgsInstr_of_unvalidated .set 256 0 hv,
      exec_encodeArgsInstr_of_unvalidated .set 2048 0 hv, exec_encodeArgsInstr_of_unvalidated .jmp 0 32 hv,
      exec_encodeArgsInstr_of_unvalidated .out 7 40 hv⟩

/-- The selector field of an in-range word: the selector, with PULL's bit above it (41 R68). -/
theorem toNat_selectorBits_pack (c : OpClass) {k : Nat} (g : Nat) (hk : k ≤ 7) :
    (selectorBits (pack c k g)).toNat = if c = .pull then k ||| 4 else k := by
  have hsel : (BitVec.ofNat 3 k).toNat = k := Nat.mod_eq_of_lt (Nat.lt_succ_of_le hk)
  rw [pack_eq_classWord g hk, classWord, selectorBits_baseWord]
  split_ifs
  case pos => rw [← four_or_eq_append, BitVec.toNat_or, hsel, Nat.or_comm]; rfl
  case neg => exact hsel

/-- IN packs the count 32 as 0: the argument field is zero (41 R68). -/
theorem pack_in_thirtyTwo (k : Nat) : pack .in_ k 32 = BitVec.ofNat 16 (0x4000 ||| (k <<< 5)) := by
  rw [pack_eq_ofNat, toNat_tag_in, Nat.mod_self, Nat.or_zero]

/-- Settles O29: the fields are the packing formula's for a selector in range, and 0 is no count of IN. -/
theorem coreWordFields : Obligations.CoreWordFields := by
  refine ⟨?fields, ?wraparound⟩
  case fields =>
    intro c k g s hl
    obtain ⟨hk, hg⟩ := (legal_encodeArgsInstr_iff c k g).mp hl
    obtain ⟨hmajor, hfield, hargument⟩ := pack_fields c g.toNat hk
    have hselector := toNat_selectorBits_pack c g.toNat hk
    refine ⟨_, exec_encodeArgsInstr_of_ok (.inr ⟨hk, hg⟩), hmajor, hfield, ?_, fun hc => ?_, fun hc => ?_⟩
    · rw [hargument, BitVec.toNat_ofNat]
    · rw [hselector, if_neg hc]
    · rw [hselector, if_pos hc]
  case wraparound =>
    intro k s hk
    have h32 : argumentInRange .in_ (32 : WNum).toNat := ⟨fun _ => by decide, fun h => absurd (.inl rfl) h⟩
    have h0 : ¬ argumentInRange .in_ (0 : WNum).toNat := fun h => absurd (h.1 (.inl rfl)).1 (by decide)
    refine ⟨?_, fun hv => exec_encodeArgsInstr_of_argument_out (c := .in_) hv hk h0⟩
    rw [← pack_in_thirtyTwo]
    exact exec_encodeArgsInstr_of_ok (c := .in_) (.inr ⟨hk, h32⟩)

/-! ## The IRQ-number helper -/

/-- A legal index stands below the flag, and bit 3 between them is zero (41 R67). -/
theorem irqComposite_fields (r : Bool) {irq : Nat} (h : irq ≤ 7) :
    (irqComposite r irq).testBit 4 = r ∧ (irqComposite r irq).testBit 3 = false ∧ irqComposite r irq % 8 = irq := by
  interval_cases irq <;> cases r <;> decide

/-- Settles O32: the helper checks the index and never masks it; a legal one leaves the flag's bit alone. -/
theorem irqNumberIsFlagAndIndex : Obligations.IrqNumberIsFlagAndIndex := by
  intro r irq
  refine ⟨fun h => irqNum_eq_error_iff.mpr ⟨rfl, h, rfl⟩, irqNum_eq_ok_iff.mpr ⟨.inl rfl, irqComposite_eq r irq⟩, ?_⟩
  intro h v
  exact ⟨_, irqNum_eq_ok_iff.mpr ⟨.inr h, rfl⟩, irqComposite_le h, irqComposite_fields r h⟩

/-! ## MOV -/

theorem toNat_tag_mov : (K.tag .mov).toNat = 0xA000 := rfl

theorem mem_movDestColumn_iff (o : Operand) :
    o ∈ [Operand.null, .pindirs, .status] ↔ K.forbid o .movDest = true := by
  obtain ⟨hall, -, -, -, -, -, hmovDest⟩ := operandSelectorsAndLegalityColumns
  exact mem_legalityColumn_iff hall hmovDest o

theorem mem_movSrcColumn_iff (o : Operand) : o ∈ [Operand.pindirs, .pc] ↔ K.forbid o .movSrc = true := by
  obtain ⟨hall, -, -, -, -, hmovSrc, -⟩ := operandSelectorsAndLegalityColumns
  exact mem_legalityColumn_iff hall hmovSrc o

/-- The MOV encoders are their pure operation on the state's configuration, and draw nothing. -/
theorem exec_movInstr (op : MovOp) (d o : Operand) (s : State) :
    exec (movInstr op d o) s = complete (encodeMov s.validate op d o) s := by
  have hspec : specified (movInstr op d o) = true := by cases op <;> rfl
  rw [exec_eq_complete_of_specified s hspec, result_movInstr]

/-- Tag and source fill the argument field, so the mask takes nothing from them (46 R88). -/
theorem pack_movArgument (op : MovOp) (k : Nat) (o : Operand) :
    pack .mov k (movArgument op o) =
      BitVec.ofNat 16 (0xA000 ||| (k <<< 5) ||| (K.movOp op <<< 3) ||| (K.sel o).toNat) := by
  have hlt : movArgument op o % 32 = movArgument op o :=
    Nat.mod_eq_of_lt ((movArgument_le op o).trans_lt (by decide))
  rw [pack_eq_ofNat, toNat_tag_mov, hlt, movArgument, selNat, Nat.or_assoc (_ ||| _)]

/-- The three MOV encoders are one family, each with its tag. -/
theorem exists_movOp_of_mem_movEncoders {d o : Operand} {p : Instr × Nat}
    (hp : p ∈ [(Instr.encodeMov d o, 0), (Instr.encodeMovNot d o, 1), (Instr.encodeMovReverse d o, 2)]) :
    ∃ op, (movInstr op d o, K.movOp op) = p :=
  have hfamily : p ∈ [MovOp.none, .not, .reverse].map fun op => (movInstr op d o, K.movOp op) := hp
  (List.mem_map.mp hfamily).imp fun _ h => h.2

/-- Settles O40: the lists are the two columns of MOV, so each clause is one of the family's outcomes. -/
theorem movEncodersPackDestinationTagSource : Obligations.MovEncodersPackDestinationTagSource := by
  intro d o s p hp
  obtain ⟨op, rfl⟩ := exists_movOp_of_mem_movEncoders hp
  rw [exec_movInstr, mem_movDestColumn_iff, mem_movSrcColumn_iff, Bool.not_eq_true, Bool.not_eq_true]
  refine ⟨?word, ?destination, ?source⟩
  case word =>
    intro h
    rw [encodeMov_eq_ok_iff.mpr ⟨h, rfl⟩, complete_ok, pack_movArgument, selNat]
  case destination =>
    intro hv hd
    rw [encodeMov_eq_error_iff.mpr ⟨hv, .inl ⟨hd, rfl⟩⟩, complete_error]
  case source =>
    intro hv hd ho
    rw [encodeMov_eq_error_iff.mpr ⟨hv, .inr ⟨hd, ho, rfl⟩⟩, complete_error]

/-! ## SET -/

theorem toNat_tag_set : (K.tag .set).toNat = 0xE000 := rfl

/-- What SET may write is what its column leaves out (40 R58). -/
theorem mem_setDests_iff (o : Operand) : o ∈ [Operand.pins, .x, .y, .pindirs] ↔ K.forbid o .setDest = false := by
  cases o <;> decide

/-- `encode_set` is its pure operation on the state's configuration, and draws nothing. -/
theorem exec_encodeSet (dest : Operand) (value : WNum) (s : State) :
    exec (.encodeSet dest value) s = complete (encodeSet s.validate dest value.toNat) s :=
  exec_eq_complete_of_specified s rfl

/-- Settles O43: the list is what SET may write, so each clause is one of the wrapper's outcomes. -/
theorem setPacksDestinationAndValue : Obligations.SetPacksDestinationAndValue := by
  intro dest value s
  rw [exec_encodeSet, mem_setDests_iff, Bool.not_eq_false]
  refine ⟨?word, ?destination, ?tooLarge⟩
  case word =>
    intro h
    rw [encodeSet_eq_ok_iff.mpr ⟨h, rfl⟩, complete_ok, pack_eq_ofNat, toNat_tag_set, selNat]
  case destination =>
    intro hv hd
    rw [encodeSet_eq_error_iff.mpr ⟨hv, .inl ⟨hd, rfl⟩⟩, complete_error]
  case tooLarge =>
    intro hv hd hx
    rw [encodeSet_eq_error_iff.mpr ⟨hv, .inr ⟨hd, hx, rfl⟩⟩, complete_error]

/-! ## The counts of IN and OUT -/

theorem exec_encodeIn_of_ok {o : Operand} {c : WNum} {s : State}
    (h : s.validate = false ∨ (K.forbid o .inSrc = false ∧ 1 ≤ c.toNat ∧ c.toNat ≤ 32)) :
    exec (.encodeIn o c) s = .next (afterWord s (pack .in_ (selNat o) c.toNat)) := by
  rw [exec_encodeIn, encodeIn_eq_ok_iff.mpr ⟨h, rfl⟩, complete_ok]

theorem exec_encodeOut_of_ok {o : Operand} {c : WNum} {s : State}
    (h : s.validate = false ∨ (K.forbid o .outDest = false ∧ 1 ≤ c.toNat ∧ c.toNat ≤ 32)) :
    exec (.encodeOut o c) s = .next (afterWord s (pack .out (selNat o) c.toNat)) := by
  rw [exec_encodeOut, encodeOut_eq_ok_iff.mpr ⟨h, rfl⟩, complete_ok]

/-- The mask takes 32 to 0, with no translation of its own (70 R133). -/
theorem pack_thirtyTwo (c : OpClass) (k : Nat) : pack c k 32 = pack c k 0 := rfl

theorem toNat_argumentBits_pack_selNat (c : OpClass) (o : Operand) (g : Nat) :
    (argumentBits (pack c (selNat o) g)).toNat = g &&& 0x1f := by
  obtain ⟨-, -, hargument⟩ := pack_fields c g (selNat_le o)
  rw [hargument, BitVec.toNat_ofNat]
  exact (Nat.and_two_pow_sub_one_eq_mod g 5).symm

theorem argumentBits_pack_thirtyTwo (c : OpClass) (o : Operand) : argumentBits (pack c (selNat o) 32) = 0 :=
  BitVec.eq_of_toNat_eq (toNat_argumentBits_pack_selNat c o 32)

/-- Settles O38: 32 passes the check and 0 does not, and the mask gives both the same word. -/
theorem inOutCountWrapsThirtyTwoToZero : Obligations.InOutCountWrapsThirtyTwoToZero := by
  intro o s u hs hu
  refine ⟨?in_, ?out, ?masked⟩
  case in_ =>
    intro ho
    refine ⟨⟨_, exec_encodeIn_of_ok (.inr ⟨ho, by decide, by decide⟩), argumentBits_pack_thirtyTwo .in_ o, ?_⟩, ?_⟩
    · exact exec_encodeIn_of_ok (.inl hu)
    · rw [exec_encodeIn, encodeIn_eq_error_iff.mpr ⟨hs, .inr ⟨ho, by decide, rfl⟩⟩, complete_error]
  case out =>
    intro ho
    refine ⟨⟨_, exec_encodeOut_of_ok (.inr ⟨ho, by decide, by decide⟩), argumentBits_pack_thirtyTwo .out o, ?_⟩, ?_⟩
    · exact exec_encodeOut_of_ok (.inl hu)
    · rw [exec_encodeOut, encodeOut_eq_error_iff.mpr ⟨hs, .inr ⟨ho, by decide, rfl⟩⟩, complete_error]
  case masked =>
    intro c
    exact ⟨_, _, exec_encodeIn_of_ok (.inl hu), exec_encodeOut_of_ok (.inl hu),
      toNat_argumentBits_pack_selNat .in_ o c.toNat, toNat_argumentBits_pack_selNat .out o c.toNat⟩

/-! ## Operands with one selector -/

theorem selNat_status : selNat .status = selNat .pc := rfl

/-- Settles O26: the two operands have one selector, and only the legality checks look at anything else. -/
theorem statusAndPcAreToldApartOnlyByLegality : Obligations.StatusAndPcAreToldApartOnlyByLegality := by
  refine ⟨?core, ?unvalidated, ?neverBoth⟩
  case core =>
    intro s c v
    rw [exec_encodeArgsWithOperandInstr, exec_encodeArgsWithOperandInstr, encodeArgsWithOperand,
      encodeArgsWithOperand, selNat_status]
  case unvalidated =>
    intro s v op o hv
    have hset (o : Operand) : exec (.encodeSet o v) s = .next (afterWord s (pack .set (selNat o) v.toNat)) := by
      rw [exec_encodeSet, encodeSet_eq_ok_iff.mpr ⟨.inl hv, rfl⟩, complete_ok]
    have hmov (d o : Operand) :
        exec (movInstr op d o) s = .next (afterWord s (pack .mov (selNat d) (movArgument op o))) := by
      rw [exec_movInstr, encodeMov_eq_ok_iff.mpr ⟨.inl hv, rfl⟩, complete_ok]
    refine ⟨?in_, ?out, ?set, ?movDest, ?movSrc⟩
    case in_ => rw [exec_encodeIn_of_ok (.inl hv), exec_encodeIn_of_ok (.inl hv), selNat_status]
    case out => rw [exec_encodeOut_of_ok (.inl hv), exec_encodeOut_of_ok (.inl hv), selNat_status]
    case set => rw [hset, hset, selNat_status]
    case movDest => rw [hmov, hmov, selNat_status]
    case movSrc => rw [hmov, hmov, movArgument, movArgument, selNat_status]
  case neverBoth =>
    intro u
    cases u <;> decide

end Sys2Proof.Machine
end

section
/-! The field encoders and the caller's combination: where side-set values and delays sit in bits[12:8], when they
overlap, and what ORing field words into a base word keeps (49 R101 to R108, 70 R131, 30 R54). -/

namespace Sys2Proof.Machine

/-! ## The checks of a side-set -/

theorem firstFailed_sidesetChecks_of_count {n : Nat} (h : ¬ (1 ≤ n ∧ n ≤ 5)) (x : Nat) :
    firstFailed (sidesetChecks n x) = some .aSidesetCount :=
  (firstFailed_cons_eq_some_iff ..).mpr (.inl ⟨decide_eq_false h, rfl⟩)

theorem firstFailed_sidesetChecks_of_value {n x : Nat} (h1 : 1 ≤ n) (h5 : n ≤ 5) (hx : 2 ^ n ≤ x) :
    firstFailed (sidesetChecks n x) = some .aSidesetValue := by
  have hx : ¬ x ≤ 2 ^ n - 1 := Nat.not_le.mpr (Nat.sub_one_lt_of_le (Nat.two_pow_pos n) hx)
  exact (firstFailed_cons_eq_some_iff ..).mpr (.inr ⟨decide_eq_true ⟨h1, h5⟩,
    (firstFailed_cons_eq_some_iff ..).mpr (.inl ⟨decide_eq_false hx, rfl⟩)⟩)

theorem firstFailed_sidesetOptChecks_of_count {n : Nat} (h : ¬ (1 ≤ n ∧ n ≤ 4)) (x : Nat) :
    firstFailed (sidesetOptChecks n x) = some .aSidesetOptCount :=
  (firstFailed_cons_eq_some_iff ..).mpr (.inl ⟨decide_eq_false h, rfl⟩)

theorem firstFailed_sidesetOptChecks_of_value {n x : Nat} (h1 : 1 ≤ n) (h4 : n ≤ 4) (hx : 2 ^ n ≤ x) :
    firstFailed (sidesetOptChecks n x) = some .aSidesetOptValue := by
  have hx : ¬ x ≤ 2 ^ n - 1 := Nat.not_le.mpr (Nat.sub_one_lt_of_le (Nat.two_pow_pos n) hx)
  exact (firstFailed_cons_eq_some_iff ..).mpr (.inr ⟨decide_eq_true ⟨h1, h4⟩,
    (firstFailed_cons_eq_some_iff ..).mpr (.inl ⟨decide_eq_false hx, rfl⟩)⟩)

/-- With VALIDATE 1 an instruction aborts with the cause its list of checks gives first (60 R115). -/
theorem exec_of_firstFailed {i : Instr} {s : State} {c : Cause} (hv : s.validate = true)
    (h : firstFailed (checks i) = some c) : exec i s = .fault (.abort c) :=
  exec_eq_fault_iff.mpr ⟨c, ⟨hv, h⟩, rfl⟩

theorem not_count_of_or {n : WNum} {m : Nat} (h : n = 0 ∨ m < n.toNat) : ¬ (1 ≤ n.toNat ∧ n.toNat ≤ m) := by
  rintro ⟨h1, hm⟩
  rcases h with rfl | h
  · exact absurd h1 (by decide)
  · omega

/-! ## The words of a side-set -/

theorem exec_sidesetInstr_of_unvalidated {n v : WNum} {s : State} (hv : s.validate = false) (hn : n.toNat ≤ 13) :
    exec (sidesetInstr n v) s = .next (afterWord s (trunc16 (v.toNat <<< (13 - n.toNat)))) := by
  have hok : result (sidesetInstr n v) s.validate s.draws = .ok (trunc16 (v.toNat <<< (13 - n.toNat))) := by
    rw [result_sidesetInstr]
    exact encodeSideset_eq_ok_iff.mpr ⟨.inl hv, (if_neg (Nat.not_lt.mpr hn)).symm⟩
  rw [exec_eq_complete_of_specified s (specified_sidesetInstr v hn), hok, complete_ok]

theorem exec_sidesetOptInstr_of_unvalidated {n v : WNum} {s : State} (hv : s.validate = false)
    (hn : n.toNat ≤ 12) : exec (sidesetOptInstr n v) s =
      .next (afterWord s (trunc16 (0x1000 ||| (v.toNat <<< (12 - n.toNat))))) := by
  have hok : result (sidesetOptInstr n v) s.validate s.draws =
      .ok (trunc16 (0x1000 ||| (v.toNat <<< (12 - n.toNat)))) := by
    rw [result_sidesetOptInstr]
    exact encodeSidesetOpt_eq_ok_iff.mpr ⟨.inl hv, (if_neg (Nat.not_lt.mpr hn)).symm⟩
  rw [exec_eq_complete_of_specified s (specified_sidesetOptInstr v hn), hok, complete_ok]

/-- Settles O45: unvalidated or legal, the word is the shifted value; otherwise the first failed check decides. -/
theorem sidesetPlacesTheValueLeftAligned : Obligations.SidesetPlacesTheValueLeftAligned := by
  intro n v s
  refine ⟨?word, ?count, ?tooLarge⟩
  case word =>
    rintro (⟨hv, hn⟩ | ⟨h1, h5, hx⟩)
    · exact exec_sidesetInstr_of_unvalidated hv hn
    · exact exec_sidesetInstr_of_legal s h1 h5 hx
  case count =>
    intro hv hn
    refine exec_of_firstFailed hv ?_
    rw [checks_sidesetInstr, firstFailed_sidesetChecks_of_count (not_count_of_or hn)]
  case tooLarge =>
    intro hv h1 h5 hx
    refine exec_of_firstFailed hv ?_
    rw [checks_sidesetInstr, firstFailed_sidesetChecks_of_value h1 h5 hx]

/-- Settles O46, as O45, for the optional form. -/
theorem optionalSidesetSetsTheFlagAndPlacesTheValue : Obligations.OptionalSidesetSetsTheFlagAndPlacesTheValue := by
  intro n v s
  refine ⟨?word, ?count, ?tooLarge⟩
  case word =>
    rintro (⟨hv, hn⟩ | ⟨h1, h4, hx⟩)
    · exact exec_sidesetOptInstr_of_unvalidated hv hn
    · exact exec_sidesetOptInstr_of_legal s h1 h4 hx
  case count =>
    intro hv hn
    refine exec_of_firstFailed hv ?_
    rw [checks_sidesetOptInstr, firstFailed_sidesetOptChecks_of_count (not_count_of_or hn)]
  case tooLarge =>
    intro hv h1 h4 hx
    refine exec_of_firstFailed hv ?_
    rw [checks_sidesetOptInstr, firstFailed_sidesetOptChecks_of_value h1 h4 hx]

/-- An unspecified result counts a draw and is some word, which VALIDATE 0 never refuses (49 R105). -/
theorem exec_of_unspecified {i : Instr} {s : State} (hspec : specified i = false) (hv : s.validate = false) :
    ∃ w, exec i s = .next { afterWord s w with draws := s.draws + 1 } := by
  have h := unvalidatedNeverAborts i s hv
  rwa [hspec] at h

/-- Settles O47: a negative shift amount is an unspecified result, and its count fails the check. -/
theorem negativeShiftYieldsAFreeWord : Obligations.NegativeShiftYieldsAFreeWord := by
  intro n v s
  refine ⟨?free, ?freeOpt, ?abort, ?abortOpt⟩
  case free => exact fun hn hv => exec_of_unspecified (decide_eq_false (Nat.not_le.mpr hn)) hv
  case freeOpt => exact fun hn hv => exec_of_unspecified (decide_eq_false (Nat.not_le.mpr hn)) hv
  case abort =>
    exact fun hn hv => exec_of_firstFailed hv (firstFailed_sidesetChecks_of_count (by omega) v.toNat)
  case abortOpt =>
    exact fun hn hv => exec_of_firstFailed hv (firstFailed_sidesetOptChecks_of_count (by omega) v.toNat)

/-! ## Positions in the field -/

theorem toNat_fieldWord : ∀ f : BitVec 5, (fieldWord f).toNat = f.toNat <<< 8 := by decide

theorem toNat_ofNat_five {x : Nat} (h : x ≤ 31) : (BitVec.ofNat 5 x).toNat = x :=
  Nat.mod_eq_of_lt (Nat.lt_succ_of_le h)

/-- A side-set value left-aligned in the field still fits it. -/
theorem shiftLeft_le_of_lt {n x : Nat} (hn : n ≤ 5) (hx : x < 2 ^ n) : x <<< (5 - n) ≤ 31 := by
  have hlt : x * 2 ^ (5 - n) < 2 ^ n * 2 ^ (5 - n) := Nat.mul_lt_mul_of_pos_right hx (Nat.two_pow_pos _)
  rw [← Nat.pow_add, Nat.add_sub_of_le hn] at hlt
  exact Nat.shiftLeft_eq .. ▸ Nat.le_of_lt_succ hlt

/-- `n` bits at the top of the field: the value above, zeros below, and the largest word when all are 1 (49 R103). -/
theorem sideset_positions {n x : Nat} (hn : n ≤ 5) (hx : x < 2 ^ n) :
    (fieldBits (trunc16 (x <<< (13 - n)))).toNat >>> (5 - n) = x ∧
      (fieldBits (trunc16 (x <<< (13 - n)))).toNat % 2 ^ (5 - n) = 0 ∧
      (trunc16 (x <<< (13 - n))).toNat ≤ 0x2000 - 2 ^ (13 - n) := by
  rw [trunc16_sideset_eq_fieldWord hn hx, fieldBits_fieldWord, toNat_fieldWord,
    toNat_ofNat_five (shiftLeft_le_of_lt hn hx)]
  refine ⟨Nat.shiftLeft_shiftRight .., ?zeros, ?largest⟩
  case zeros => rw [Nat.shiftLeft_eq, Nat.mul_mod_left]
  case largest =>
    calc x <<< (5 - n) <<< 8 = x * 2 ^ (13 - n) := by
          rw [← Nat.shiftLeft_add, Nat.shiftLeft_eq, show 5 - n + 8 = 13 - n by omega]
      _ ≤ (2 ^ n - 1) * 2 ^ (13 - n) := Nat.mul_le_mul_right _ (Nat.le_pred_of_lt hx)
      _ = 0x2000 - 2 ^ (13 - n) := by
          rw [Nat.sub_mul, ← Nat.pow_add, show n + (13 - n) = 13 by omega, Nat.one_mul]

/-- The flag above an `n`-bit value adds its weight. -/
theorem two_pow_or_eq_add {n v : Nat} (h : v < 2 ^ n) : 2 ^ n ||| v = 2 ^ n + v := by
  simpa using (Nat.two_pow_add_eq_or_of_lt h 1).symm

/-- Settles O48: the optional form is the plain one with its flag as one more bit. -/
theorem sidesetValuePositions : Obligations.SidesetValuePositions := by
  intro n v s hx
  refine ⟨?plain, ?optional⟩
  case plain => exact fun h1 h5 => ⟨_, exec_sidesetInstr_of_legal s h1 h5 hx, sideset_positions h5 hx⟩
  case optional =>
    intro h1 h4
    refine ⟨_, exec_sidesetOptInstr_of_legal s h1 h4 hx, ?_⟩
    have hpos := sideset_positions (Nat.succ_le_succ h4) (two_pow_or_lt hx)
    rwa [← sidesetOpt_flag_or_eq_shiftLeft _ (by omega), Nat.add_sub_add_right 4 1, Nat.add_sub_add_right 12 1,
      two_pow_or_eq_add hx] at hpos

/-! ## Combining words -/

/-- ORing words ORs each of their fields. -/
theorem fields_or (w x : Word) :
    majorBits (w ||| x) = majorBits w ||| majorBits x ∧ fieldBits (w ||| x) = fieldBits w ||| fieldBits x ∧
      selectorBits (w ||| x) = selectorBits w ||| selectorBits x ∧
      argumentBits (w ||| x) = argumentBits w ||| argumentBits x :=
  ⟨BitVec.extractLsb'_or, BitVec.extractLsb'_or, BitVec.extractLsb'_or, BitVec.extractLsb'_or⟩

/-- Field words reach nothing of a combination but its field bits (49 R106). -/
theorem fields_combine (w : Word) (f g : BitVec 5) :
    majorBits (combine w (fieldWord f) (fieldWord g)) = majorBits w ∧
      selectorBits (combine w (fieldWord f) (fieldWord g)) = selectorBits w ∧
      argumentBits (combine w (fieldWord f) (fieldWord g)) = argumentBits w ∧
      fieldBits (combine w (fieldWord f) (fieldWord g)) = fieldBits w ||| f ||| g := by
  obtain ⟨hm, hf, hs, ha⟩ := fields_or w (fieldWord f)
  obtain ⟨hm', hf', hs', ha'⟩ := fields_or (w ||| fieldWord f) (fieldWord g)
  rw [combine, hm', hf', hs', ha', hm, hf, hs, ha]
  simp

theorem exists_fieldWord_of_exec {i : Instr} {s : State} {w : Word} (hc : instrClass i = none)
    (hwf : i.wellFormed = true) (hr : inRange i = true) (h : exec i s = .next (afterWord s w)) :
    ∃ f, w = fieldWord f := by
  obtain ⟨hm, hs, hg⟩ := fieldWordsAreZeroOutsideTheField i s w hc hwf hr h
  exact ⟨_, eq_fieldWord hm hs hg⟩

/-- Settles O50: the two field words have nothing but field bits, and the base word has none. -/
theorem combiningKeepsTheBaseFields : Obligations.CombiningKeepsTheBaseFields := by
  intro i f g s w x y c hi hf hg hfwf hgwf hir hfr hgr hw hx hy
  obtain ⟨hzero, -⟩ := baseWordsHaveZeroFieldBits.1 i s w c hi hir hw
  obtain ⟨x, rfl⟩ := exists_fieldWord_of_exec hf hfwf hfr hx
  obtain ⟨y, rfl⟩ := exists_fieldWord_of_exec hg hgwf hgr hy
  obtain ⟨hmajor, hselector, hargument, hfield⟩ := fields_combine w x y
  rw [hfield, hzero, fieldBits_fieldWord, fieldBits_fieldWord]
  exact ⟨hmajor, hselector, hargument, by simp⟩

/-- A delay that fits the field yields its field word in every state (49 R100). -/
theorem exec_encodeDelay_of_le {c : WNum} (s : State) (hc : c.toNat ≤ 31) :
    exec (.encodeDelay c) s = .next (afterWord s (fieldWord (BitVec.ofNat 5 c.toNat))) := by
  rw [exec_encodeDelay, encodeDelay_eq_ok_iff.mpr ⟨.inr hc, rfl⟩, complete_ok,
    trunc16_shiftLeft_eight_eq_fieldWord hc]

/-- On a base word the field bits of the combination are the two numbers, ORed. -/
theorem toNat_fieldBits_combine {w : Word} {c d : Nat} (hw : fieldBits w = 0) (hc : c ≤ 31) (hd : d ≤ 31) :
    (fieldBits (combine w (fieldWord (BitVec.ofNat 5 c)) (fieldWord (BitVec.ofNat 5 d)))).toNat = c ||| d := by
  obtain ⟨-, -, -, hfield⟩ := fields_combine w (BitVec.ofNat 5 c) (BitVec.ofNat 5 d)
  have hw : (fieldBits w).toNat = 0 := congrArg BitVec.toNat hw
  rw [hfield, BitVec.toNat_or, BitVec.toNat_or, hw, toNat_ofNat_five hc, toNat_ofNat_five hd, Nat.zero_or]

/-- Settles O52: the field bits of the combination are those of the two delays, ORed. -/
theorem twoDelaysCombineToTheOrOfTheirCounts : Obligations.TwoDelaysCombineToTheOrOfTheirCounts := by
  intro c d s base hc hd hbase
  refine ⟨_, _, exec_encodeDelay_of_le s hc, exec_encodeDelay_of_le s hd, ?_⟩
  exact toNat_fieldBits_combine hbase hc hd

/-! ## Delay beside a side-set -/

/-- Below the shifted value there is room for a number of as many bits. -/
theorem and_shiftLeft_eq_zero {c k : Nat} (x : Nat) (hc : c < 2 ^ k) : c &&& (x <<< k) = 0 := by
  apply Nat.eq_of_testBit_eq
  intro j
  by_cases hj : j < k
  · simp [Nat.testBit_shiftLeft, Nat.not_le.mpr hj]
  · have hcj : c.testBit j = false :=
      Nat.testBit_lt_two_pow (hc.trans_le (Nat.pow_le_pow_right (by decide) (Nat.not_lt.mp hj)))
    simp [hcj]

/-- A number with a bit at or above `k` meets `n` ones that stand from `k` up, if it ends below them. -/
theorem and_ones_shiftLeft_ne_zero {c k n : Nat} (hk : 2 ^ k ≤ c) (hc : c < 2 ^ (k + n)) :
    c &&& ((2 ^ n - 1) <<< k) ≠ 0 := by
  have htop : (c &&& ((2 ^ n - 1) <<< k)) >>> k = c >>> k := by
    rw [Nat.shiftRight_and_distrib, Nat.shiftLeft_shiftRight, Nat.and_two_pow_sub_one_eq_mod]
    apply Nat.mod_eq_of_lt
    rw [Nat.shiftRight_eq_div_pow]
    exact Nat.div_lt_of_lt_mul (Nat.pow_add 2 k n ▸ hc)
  intro hzero
  rw [hzero, Nat.zero_shiftRight, Nat.shiftRight_eq_div_pow] at htop
  have hpos : 0 < c / 2 ^ k := Nat.div_pos hk (Nat.two_pow_pos k)
  omega

theorem fieldWord_and (f g : BitVec 5) : fieldWord f &&& fieldWord g = fieldWord (f &&& g) := by
  change (0#3 ++ f ++ 0#8 : BitVec (3 + 5 + 8)) &&& (0#3 ++ g ++ 0#8) = _
  simp only [BitVec.and_append, BitVec.and_self, fieldWord]

theorem fieldWord_eq_zero_iff {f : BitVec 5} : fieldWord f = 0 ↔ f.toNat = 0 := by
  rw [BitVec.toNat_eq, toNat_fieldWord, Nat.shiftLeft_eq]
  simp

/-- A delay and a side-set of `n` bits share a bit exactly when their counts do, once the value is shifted. -/
theorem delay_and_sideset_eq_zero_iff {c n x : Nat} (hc : c ≤ 31) (hn : n ≤ 5) (hx : x < 2 ^ n) :
    fieldWord (BitVec.ofNat 5 c) &&& trunc16 (x <<< (13 - n)) = 0 ↔ c &&& (x <<< (5 - n)) = 0 := by
  rw [trunc16_sideset_eq_fieldWord hn hx, fieldWord_and, fieldWord_eq_zero_iff, BitVec.toNat_and,
    toNat_ofNat_five hc, toNat_ofNat_five (shiftLeft_le_of_lt hn hx)]

/-- THE USABLE DELAY (49 R108): up to it no bit is shared and the delay reads back; above it the largest value
shares one. -/
theorem delay_beside_sideset {c n x : Nat} (hc : c ≤ 31) (hn : n ≤ 5) (hx : x < 2 ^ n) :
    (c ≤ usableDelay .plain n → fieldWord (BitVec.ofNat 5 c) &&& trunc16 (x <<< (13 - n)) = 0 ∧
      (fieldBits (combine 0 (fieldWord (BitVec.ofNat 5 c)) (trunc16 (x <<< (13 - n))))).toNat % 2 ^ (5 - n) = c) ∧
    (x = 2 ^ n - 1 → usableDelay .plain n < c →
      fieldWord (BitVec.ofNat 5 c) &&& trunc16 (x <<< (13 - n)) ≠ 0) := by
  have hsplit : 5 - n + n = 5 := Nat.sub_add_cancel hn
  refine ⟨?within, ?above⟩
  case within =>
    intro hle
    have hlt : c < 2 ^ (5 - n) := Nat.lt_of_le_pred (Nat.two_pow_pos _) hle
    refine ⟨(delay_and_sideset_eq_zero_iff hc hn hx).mpr (and_shiftLeft_eq_zero x hlt), ?_⟩
    rw [trunc16_sideset_eq_fieldWord hn hx, toNat_fieldBits_combine rfl hc (shiftLeft_le_of_lt hn hx),
      Nat.or_mod_two_pow, Nat.mod_eq_of_lt hlt, Nat.shiftLeft_eq, Nat.mul_mod_left, Nat.or_zero]
  case above =>
    rintro rfl hgt
    rw [Ne, delay_and_sideset_eq_zero_iff hc hn hx]
    refine and_ones_shiftLeft_ne_zero (Nat.le_of_pred_lt hgt) ?_
    rw [hsplit]
    exact Nat.lt_succ_of_le hc

/-- Settles O51: the optional form is the plain one with its flag as one more bit, on top of the largest value
too. -/
theorem delayWithinTheBoundDoesNotOverlapSideset : Obligations.DelayWithinTheBoundDoesNotOverlapSideset := by
  intro c n v s w hc hw hx
  obtain rfl : fieldWord (BitVec.ofNat 5 c.toNat) = w := by
    simpa using (exec_encodeDelay_of_le s hc).symm.trans hw
  refine ⟨?plain, ?optional⟩
  case plain => exact fun h1 h5 => ⟨_, exec_sidesetInstr_of_legal s h1 h5 hx, delay_beside_sideset hc h5 hx⟩
  case optional =>
    intro h1 h4
    refine ⟨_, exec_sidesetOptInstr_of_legal s h1 h4 hx, ?_⟩
    obtain ⟨hwithin, habove⟩ := delay_beside_sideset hc (Nat.succ_le_succ h4) (two_pow_or_lt hx)
    rw [← sidesetOpt_flag_or_eq_shiftLeft _ (by omega), Nat.add_sub_add_right 4 1] at hwithin
    rw [← sidesetOpt_flag_or_eq_shiftLeft _ (by omega)] at habove
    refine ⟨hwithin, fun hv => habove ?_⟩
    rw [two_pow_or_eq_add hx, hv, Nat.pow_succ, Nat.mul_two, Nat.add_sub_assoc (Nat.two_pow_pos _)]

/-! ## Distinct requests with one word -/

/-- PULL's tag holds bit 7, which is bit 2 of the selector (30 R54). -/
theorem pack_push_eq_pack_pull {k : Nat} (g : Nat) (hk : k ≤ 3) :
    pack .push (k ||| 4) g = pack .pull k g ∧ pack .pull (k ||| 4) g = pack .pull k g := by
  interval_cases k <;> exact ⟨rfl, rfl⟩

/-- Settles O54: the words agree, because the fields they are packed into do. -/
theorem distinctRequestsYieldOneWord : Obligations.DistinctRequestsYieldOneWord := by
  intro s
  refine ⟨exec_encodeNop_eq_encodeMov_y_y s, ?inCount, ?pushPull, ?delaySideset, ?zero⟩
  case inCount =>
    intro hv o
    rw [exec_encodeIn_of_ok (.inl hv), exec_encodeIn_of_ok (.inl hv)]
    exact congrArg (fun w => Host.Outcome.next (afterWord s w)) (pack_thirtyTwo .in_ (selNat o))
  case pushPull =>
    intro k g hk hg
    have hor : (k ||| 4).toNat = k.toNat ||| 4 := BitVec.toNat_or ..
    have hle : (k ||| 4).toNat ≤ 7 :=
      hor.trans_le (Nat.le_of_lt_succ (Nat.or_lt_two_pow (n := 3) (by omega) (by decide)))
    obtain ⟨hpush, hpull⟩ := pack_push_eq_pack_pull g.toNat hk
    rw [← hor] at hpush hpull
    have hpushArg : argumentInRange .push g.toNat := (argumentInRange_iff_le (by decide)).mpr hg
    have hpullArg : argumentInRange .pull g.toNat := (argumentInRange_iff_le (by decide)).mpr hg
    refine ⟨afterWord s (pack .pull k.toNat g.toNat), ?_, ?_, ?_⟩
    · rw [← hpush]
      exact exec_encodeArgsInstr_of_ok (c := .push) (.inr ⟨hle, hpushArg⟩)
    · exact exec_encodeArgsInstr_of_ok (c := .pull) (.inr ⟨by omega, hpullArg⟩)
    · rw [← hpull]
      exact exec_encodeArgsInstr_of_ok (c := .pull) (.inr ⟨hle, hpullArg⟩)
  case delaySideset =>
    intro c hc
    have hsideset := exec_sidesetInstr_of_legal (n := 5) s (by decide) (by decide) (Nat.lt_succ_of_le hc)
    rw [exec_encodeDelay_of_le s hc, ← trunc16_shiftLeft_eight_eq_fieldWord hc]
    exact hsideset.symm
  case zero =>
    intro n h1 h5
    obtain ⟨-, -, hzero⟩ := onlyTheOptionalFormSetsBitTwelveAsAFlag
    rw [(hzero n s).1 h1 h5, exec_encodeDelay_of_le s (by decide)]
    rfl

end Sys2Proof.Machine
end
